-- ==== Sys2Proof/Word.lean ====
section
/-! DEFINITION. The word types of the block (00_scope.md R10, R12): every value is an unsigned bit vector. The parameters
HADDR_W, HDATA_W, UPC_W, ROM_DEPTH and UWORD_W are fields of Config, and `Config.wf` ties these types to them (log 21). -/

namespace Sys2Proof

/-- A byte on the sensor bus (R12). -/
abbrev Byte := BitVec 8

/-- Host register data and raw codes: HDATA_W = 16 bits (R10, R12). -/
abbrev HData := BitVec 16

/-- Host register offset: HADDR_W = 4 bits (R10, R60). -/
abbrev HAddr := BitVec 4

/-- Host access word H21 (R91). -/
abbrev HWord := BitVec 21

/-- Microword U24: UWORD_W = 24 bits (R10, R99). -/
abbrev UWord := BitVec 24

/-- Microprogram counter: UPC_W = 5 bits (R10, R32). -/
abbrev UAddr := BitVec 5

/-- 7-bit bus address of a device (R9, R10). -/
abbrev DevAddr := BitVec 7

/-- ROM_DEPTH (R10): the number of microwords. -/
abbrev romDepth : Nat := 32

end Sys2Proof
end

