-- ==== Sys2Proof/Config.lean ====
section
/-! DEFINITION. The block's ports at transaction level (00_scope.md R9), its implementation parameters (R10), and the
draws the spec leaves free (93_implementation_defined.md U4, U9). -/

namespace Sys2Proof

/-- A transport request (R9, R150): at most one is outstanding. -/
inductive Request where
  /-- `Write(dev, bytes)`, bytes in the order they are sent. -/
  | write (dev : DevAddr) (bytes : List Byte)
  /-- `Read(dev, len)`. -/
  | read (dev : DevAddr) (len : Nat)
  deriving DecidableEq, Repr, Inhabited

/-- A transport response (R9, R150). -/
inductive Response where
  | wOk
  | wErr
  /-- The bytes in the order received; any length (R151). -/
  | rOk (bytes : List Byte)
  | rErr
  deriving DecidableEq, Repr, Inhabited

/-- XPORT's free draw for one request (R151, log 4): success or error, and the bytes a read returns. -/
structure Answer where
  ok    : Bool
  bytes : List Byte
  deriving DecidableEq, Repr, Inhabited

/-- One atomic step of one agent (R7, R8). -/
inductive Event where
  /-- HOST performs the access of this H21 word (R120). -/
  | host (w : HWord)
  /-- SEQ takes the step it has, if it has one (R152). -/
  | seq
  /-- XPORT answers the outstanding request (R151). -/
  | xport (a : Answer)
  /-- One tick of the time base (R184). -/
  | tick
  /-- The reset input (R270). -/
  | reset
  deriving DecidableEq, Repr, Inhabited

/-- The parameters of R10 that an instance of the block is built with, every one a field. R12, R91 and R99 fix
the formats bit by bit, so the widths and the depth have one value each in an instance of the spec (`fixedSizes`, log 21),
and `Sys2Proof/Word.lean` has the types of that value. -/
structure Config where
  devAddr     : DevAddr
  regGain     : Byte
  regInteg    : Byte
  regCtrl     : Byte
  regVbus     : Byte
  regVsense   : Byte
  regVpower   : Byte
  regOvf      : Byte
  valGain     : Byte
  valCtrl     : Byte
  valIntArm   : Byte
  valIntStart : Byte
  /-- T_SETTLE in whole milliseconds (log 22). -/
  tSettleMs   : Nat
  /-- T_INTEG in whole milliseconds (log 22). -/
  tIntegMs    : Nat
  /-- F_TICK in whole hertz. DESIGN CHOICE (log 22): R10 and R187 do not say that it is whole or positive; here a fraction of
  a hertz cannot be written and 0 can. -/
  fTick       : Nat
  nSettle     : Nat
  nInteg      : Nat
  timerW      : Nat
  haddrW      : Nat
  hdataW      : Nat
  upcW        : Nat
  romDepth    : Nat
  uwordW      : Nat
  lenChannel  : Nat
  lenOvf      : Nat
  deriving DecidableEq, Repr

namespace Config

/-- The defaults of R10. REG_GAIN, REG_INTEG and REG_CTRL are the spec's general knowledge (G1, log 6; PRESUMED). -/
def default : Config where
  devAddr     := 0x4C
  regGain     := 0x00
  regInteg    := 0x01
  regCtrl     := 0x02
  regVbus     := 0x10
  regVsense   := 0x12
  regVpower   := 0x1D
  regOvf      := 0x1C
  valGain     := 0x01
  valCtrl     := 0x02
  valIntArm   := 0x3F
  valIntStart := 0x3E
  tSettleMs   := 150
  tIntegMs    := 3000
  fTick       := 1000
  nSettle     := 151
  nInteg      := 3001
  timerW      := 16
  haddrW      := 4
  hdataW      := 16
  upcW        := 5
  romDepth    := 32
  uwordW      := 24
  lenChannel  := 2
  lenOvf      := 1

/-- The widths and the depth that R10 gives and that R12 and the formats H21 (R91) and U24 (R99) are written with: an
offset of 4 bits, host data of 16, a PC of 5, 32 words, 24 bits a word (log 21). -/
def fixedSizes (c : Config) : Bool :=
  c.haddrW == 4 && c.hdataW == 16 && c.upcW == 5 && c.romDepth == 32 && c.uwordW == 24

/-- R10: "must satisfy 2^TIMER_W > max(N_SETTLE, N_INTEG)"; the widths are R10's; a read asks for 1 or 2 bytes (R150). -/
def wf (c : Config) : Bool :=
  c.fixedSizes && decide (max c.nSettle c.nInteg < 2 ^ c.timerW) &&
  decide (1 ≤ c.lenChannel ∧ c.lenChannel ≤ 2) && decide (1 ≤ c.lenOvf ∧ c.lenOvf ≤ 2)

/-- The parameters R10 gives a value (from the source, or the widths) have it; the OPEN ones are free. -/
def sourceValues (c : Config) : Bool :=
  c == { default with regGain := c.regGain, regInteg := c.regInteg, regCtrl := c.regCtrl, fTick := c.fTick,
                      nSettle := c.nSettle, nInteg := c.nInteg, timerW := c.timerW }

/-- R187: `N_SETTLE >= T_SETTLE * F_TICK + 1` and `N_INTEG >= T_INTEG * F_TICK + 1`, scaled to milliseconds. F_TICK is a
whole number of hertz, 0 allowed: the model's choice (log 22). -/
def conforming (c : Config) : Bool :=
  decide (1000 * c.nSettle ≥ c.tSettleMs * c.fTick + 1000) && decide (1000 * c.nInteg ≥ c.tIntegMs * c.fTick + 1000)

/-- FREE VALUE (U4, U9, log 2): which agent steps, and with which draw, once the tape in State is used up. No body:
nothing in Lean can evaluate it. -/
opaque freeEvent : Nat → Event

end Config

end Sys2Proof
end

