-- ==== Sys2Proof/Syntax.lean ====
section
/-! DEFINITION. The block's instructions (00_scope.md R2): the host's register accesses (format H21, 30_encoding.md R92) and
the micro-operations (format U24, R100), one constructor per instruction of spec/opcode_table.json. A constructor carries
every bit of its word that the encoding does not fix, the ignored ones too (log 17). -/

namespace Sys2Proof

/-- The operand fields of a microword (R99), named as there. -/
structure UFields where
  /-- bits 19..18: staging slot of a BRD, DSEL of a WAIT -/
  a    : BitVec 2
  /-- bit 16: byte count minus 1 of a BRD -/
  l    : BitVec 1
  /-- bits 15..8: sensor register pointer -/
  reg  : Byte
  /-- bits 7..0: data byte of a BWR, next state of an END -/
  data : Byte
  deriving DecidableEq, Repr

inductive Instr where
  /-- HW_CMD_INIT (R121); `ign` is D[15:8]. -/
  | hwCmdInit (ign : Byte)
  /-- HW_CMD_MEASURE (R122); `ign` is D[15:8]. -/
  | hwCmdMeasure (ign : Byte)
  /-- HW_CMD_RELEASE (R123); `ign` is D[15:8]. -/
  | hwCmdRelease (ign : Byte)
  /-- HW_CMD_OTHER (R124): D[7:0] is none of the three command codes. -/
  | hwCmdOther (d : HData)
  /-- HR_CMD (R125) -/
  | hrCmd (d : HData)
  /-- HR_STATUS (R126) -/
  | hrStatus (d : HData)
  /-- HW_STATUS (R127) -/
  | hwStatus (d : HData)
  /-- HW_SEL (R128) -/
  | hwSel (d : HData)
  /-- HR_SEL (R129) -/
  | hrSel (d : HData)
  /-- HR_SAMPLE (R130) -/
  | hrSample (d : HData)
  /-- HW_SAMPLE (R131) -/
  | hwSample (d : HData)
  /-- HR_RSVD (R132): offset `a` in 0x4 to 0xF. -/
  | hrRsvd (a : HAddr) (d : HData)
  /-- HW_RSVD (R132): offset `a` in 0x4 to 0xF. -/
  | hwRsvd (a : HAddr) (d : HData)
  /-- END (R188) -/
  | uopEnd (f : UFields)
  /-- BWR (R153 to R155) -/
  | uopBwr (f : UFields)
  /-- BRD (R156 to R162) -/
  | uopBrd (f : UFields)
  /-- WAIT (R183 to R185) -/
  | uopWait (f : UFields)
  /-- COMMIT (R212) -/
  | uopCommit (f : UFields)
  /-- RSVD_UOP (R106): UOP 0x5 to 0xF; `body` is bits 19..0. -/
  | rsvdUop (uop : BitVec 4) (body : BitVec 20)
  /-- RSVD_B17 (R106): bit 17 is 1, UOP 0x0 to 0x4 (log 10). -/
  | rsvdB17 (uop : BitVec 4) (f : UFields)
  deriving DecidableEq, Repr

end Sys2Proof
end

