-- ==== Sys2Proof/WellFormed.lean ====
section
/-! DEFINITION. Which terms of Instr are instructions of the block: operands whose range is smaller than their type
(30_encoding.md R92, R100). Every other term has an encoding as it stands. -/

namespace Sys2Proof

/-- D[7:0] of a CMD write is one of the three commands (R93). -/
def isCommandCode (b : Byte) : Bool := b == 0x01 || b == 0x02 || b == 0x03

/-- A host offset is reserved: 0x4 to 0xF (R61). -/
def isReservedOffset (a : HAddr) : Bool := decide (4 ≤ a.toNat)

/-- A UOP code is reserved: 0x5 to 0xF (R100). -/
def isReservedUop (u : BitVec 4) : Bool := decide (5 ≤ u.toNat)

def Instr.wellFormed : Instr → Bool
  | .hwCmdInit _ => true
  | .hwCmdMeasure _ => true
  | .hwCmdRelease _ => true
  | .hwCmdOther d => !isCommandCode (d.extractLsb' 0 8)
  | .hrCmd _ => true
  | .hrStatus _ => true
  | .hwStatus _ => true
  | .hwSel _ => true
  | .hrSel _ => true
  | .hrSample _ => true
  | .hwSample _ => true
  | .hrRsvd a _ => isReservedOffset a
  | .hwRsvd a _ => isReservedOffset a
  | .uopEnd _ => true
  | .uopBwr _ => true
  | .uopBrd _ => true
  | .uopWait _ => true
  | .uopCommit _ => true
  | .rsvdUop u _ => isReservedUop u
  | .rsvdB17 u _ => !isReservedUop u

/-- The space an instruction's word belongs to (R90). -/
inductive Space where
  | host
  | rom
  deriving DecidableEq, Repr

def Instr.space : Instr → Space
  | .hwCmdInit _ => .host
  | .hwCmdMeasure _ => .host
  | .hwCmdRelease _ => .host
  | .hwCmdOther _ => .host
  | .hrCmd _ => .host
  | .hrStatus _ => .host
  | .hwStatus _ => .host
  | .hwSel _ => .host
  | .hrSel _ => .host
  | .hrSample _ => .host
  | .hwSample _ => .host
  | .hrRsvd _ _ => .host
  | .hwRsvd _ _ => .host
  | .uopEnd _ => .rom
  | .uopBwr _ => .rom
  | .uopBrd _ => .rom
  | .uopWait _ => .rom
  | .uopCommit _ => .rom
  | .rsvdUop _ _ => .rom
  | .rsvdB17 _ _ => .rom

end Sys2Proof
end

