-- ==== Sys2Proof/Decode.lean ====
section
/-! DEFINITION. The decoder and the encoder of the two formats H21 and U24 (30_encoding.md R90 to R101), and the opcode
table's rows as masks. -/

namespace Sys2Proof

/-- A code word with the space it belongs to: "A decoder knows the length from the space the word belongs to" (R90). -/
inductive CodeWord where
  | host (w : HWord)
  | rom (w : UWord)
  deriving DecidableEq, Repr

/-- Why a number is no code word of a space. -/
inductive DecodeError where
  /-- A host access word has 21 bits. -/
  | hostWordTooWide
  /-- A microword has 24 bits. -/
  | microwordTooWide
  deriving DecidableEq, Repr

/-- H21 decode map (R92). Total: "every 21-bit word decodes to exactly one row". -/
def decodeHost (w : HWord) : Instr :=
  let a := w.extractLsb' 16 4
  let d := w.extractLsb' 0 16
  let code := w.extractLsb' 0 8
  let hi := w.extractLsb' 8 8
  if 4 ≤ a.toNat then
    if w.getLsbD 20 then .hwRsvd a d else .hrRsvd a d
  else if w.getLsbD 20 then
    if a = 0 then
      if code = 0x01 then .hwCmdInit hi
      else if code = 0x02 then .hwCmdMeasure hi
      else if code = 0x03 then .hwCmdRelease hi
      else .hwCmdOther d
    else if a = 1 then .hwStatus d
    else if a = 2 then .hwSel d
    else .hwSample d
  else if a = 0 then .hrCmd d
  else if a = 1 then .hrStatus d
  else if a = 2 then .hrSel d
  else .hrSample d

/-- The operand fields of a microword (R99). -/
def microFields (w : UWord) : UFields where
  a    := w.extractLsb' 18 2
  l    := w.extractLsb' 16 1
  reg  := w.extractLsb' 8 8
  data := w.extractLsb' 0 8

/-- U24 decode (R99, R100, R106). Total; the reserved words decode to the table's two reserved instructions. -/
def decodeMicro (w : UWord) : Instr :=
  let uop := w.extractLsb' 20 4
  let f := microFields w
  if 5 ≤ uop.toNat then .rsvdUop uop (w.extractLsb' 0 20)
  else if w.getLsbD 17 then .rsvdB17 uop f
  else if uop = 0 then .uopEnd f
  else if uop = 1 then .uopBwr f
  else if uop = 2 then .uopBrd f
  else if uop = 3 then .uopWait f
  else .uopCommit f

def decode : CodeWord → Instr
  | .host w => decodeHost w
  | .rom w => decodeMicro w

/-- The code word a number is in a space; rejected by name where it has more bits than the format. -/
def codeWordOf (sp : Space) (n : Nat) : Except DecodeError CodeWord :=
  match sp with
  | .host => if n < 2 ^ 21 then .ok (.host (BitVec.ofNat 21 n)) else .error .hostWordTooWide
  | .rom => if n < 2 ^ 24 then .ok (.rom (BitVec.ofNat 24 n)) else .error .microwordTooWide

/-- The decoder on any number in a space. -/
def decodeNumber (sp : Space) (n : Nat) : Except DecodeError Instr :=
  match codeWordOf sp n with
  | .ok c => .ok (decode c)
  | .error e => .error e

/-- The word `{W, A, D}` of a host access (R91). -/
def hostWord (write : Bool) (a : HAddr) (d : HData) : HWord := BitVec.ofBool write ++ a ++ d

/-- The microword of its fields (R99). -/
def microword (uop : BitVec 4) (b17 : Bool) (f : UFields) : UWord :=
  uop ++ f.a ++ BitVec.ofBool b17 ++ f.l ++ f.reg ++ f.data

/-- The encoder (R91, R93, R99, R100). -/
def encode : Instr → CodeWord
  | .hwCmdInit ign => .host (hostWord true 0x0 (ign ++ 0x01#8))
  | .hwCmdMeasure ign => .host (hostWord true 0x0 (ign ++ 0x02#8))
  | .hwCmdRelease ign => .host (hostWord true 0x0 (ign ++ 0x03#8))
  | .hwCmdOther d => .host (hostWord true 0x0 d)
  | .hrCmd d => .host (hostWord false 0x0 d)
  | .hrStatus d => .host (hostWord false 0x1 d)
  | .hwStatus d => .host (hostWord true 0x1 d)
  | .hwSel d => .host (hostWord true 0x2 d)
  | .hrSel d => .host (hostWord false 0x2 d)
  | .hrSample d => .host (hostWord false 0x3 d)
  | .hwSample d => .host (hostWord true 0x3 d)
  | .hrRsvd a d => .host (hostWord false a d)
  | .hwRsvd a d => .host (hostWord true a d)
  | .uopEnd f => .rom (microword 0x0 false f)
  | .uopBwr f => .rom (microword 0x1 false f)
  | .uopBrd f => .rom (microword 0x2 false f)
  | .uopWait f => .rom (microword 0x3 false f)
  | .uopCommit f => .rom (microword 0x4 false f)
  | .rsvdUop u body => .rom (u ++ body)
  | .rsvdB17 u f => .rom (microword u true f)

/-- A code word's bits as spec/opcode_table.json numbers them; a host access word has none above bit 20. -/
def CodeWord.bits : CodeWord → BitVec 24
  | .host w => w.zeroExtend 24
  | .rom w => w

/-- The space of a word of spec/opcode_table.json, which is given as a bare number (log 13). A row of format H21 fixes bit
20 and has 21 bits, a row of format U24 has 24, and both fill three bytes, so a number below 2^21 may be either: it is read
as a host access word. -/
def tableSpace (w : Nat) : Space := if w < 2 ^ 21 then .host else .rom

/-- The instruction the decoder reads from a word numbered as spec/opcode_table.json numbers it; none where the number has
more than three bytes or more bits than `nbits` says. -/
def decodeTableWord (nbits w : Nat) : Option Instr :=
  if nbits ≤ 24 ∧ w < 2 ^ nbits then (decodeNumber (tableSpace w) w).toOption else none

/-- A row of the opcode table: the bits it fixes and their values. -/
structure OpcodeRow where
  mask : BitVec 24
  bits : BitVec 24
  deriving DecidableEq, Repr

/-- The rows of spec/opcode_table.json for an instruction's mnemonic (mask, match). -/
def Instr.rows : Instr → List OpcodeRow
  | .hwCmdInit _ => [⟨0x1F00FF, 0x100001⟩]
  | .hwCmdMeasure _ => [⟨0x1F00FF, 0x100002⟩]
  | .hwCmdRelease _ => [⟨0x1F00FF, 0x100003⟩]
  | .hwCmdOther _ => [⟨0x1F0000, 0x100000⟩]
  | .hrCmd _ => [⟨0x1F0000, 0x000000⟩]
  | .hrStatus _ => [⟨0x1F0000, 0x010000⟩]
  | .hwStatus _ => [⟨0x1F0000, 0x110000⟩]
  | .hwSel _ => [⟨0x1F0000, 0x120000⟩]
  | .hrSel _ => [⟨0x1F0000, 0x020000⟩]
  | .hrSample _ => [⟨0x1F0000, 0x030000⟩]
  | .hwSample _ => [⟨0x1F0000, 0x130000⟩]
  | .hrRsvd _ _ => [⟨0x1C0000, 0x040000⟩, ⟨0x180000, 0x080000⟩]
  | .hwRsvd _ _ => [⟨0x1C0000, 0x140000⟩, ⟨0x180000, 0x180000⟩]
  | .uopEnd _ => [⟨0xF20000, 0x000000⟩]
  | .uopBwr _ => [⟨0xF20000, 0x100000⟩]
  | .uopBrd _ => [⟨0xF20000, 0x200000⟩]
  | .uopWait _ => [⟨0xF20000, 0x300000⟩]
  | .uopCommit _ => [⟨0xF20000, 0x400000⟩]
  | .rsvdUop _ _ => [⟨0xF00000, 0x500000⟩, ⟨0xE00000, 0x600000⟩, ⟨0x800000, 0x800000⟩]
  | .rsvdB17 _ _ => [⟨0x020000, 0x020000⟩]

/-- A code word has the bits a row fixes. -/
def OpcodeRow.covers (r : OpcodeRow) (c : CodeWord) : Bool := c.bits &&& r.mask == r.bits

end Sys2Proof
end

