-- ==== Sys2Proof/Machine/Rom.lean ====
section
/-! DEFINITION. The microcode ROM (30_encoding.md R104, R105): its listing for any parameters, and its read port. -/

namespace Sys2Proof.Machine

/-- The ROM: ROM_DEPTH microwords (R60). -/
abbrev Rom := Vector UWord romDepth

/-- INIT_ENTRY (R105). -/
def initEntry : UAddr := 0x00

/-- MEAS_ENTRY (R105). -/
def measEntry : UAddr := 0x05

/-- MABORT, the MEASURE abort tail (R105). -/
def mAbort : UAddr := 0x13

/-- IABORT, the INIT abort tail (R105). -/
def iAbort : UAddr := 0x15

/-- `ROM[a]` (R13): a fetch reads one whole microword (R62). -/
def romAt (rom : Rom) (a : UAddr) : UWord := rom[a.toNat]'a.isLt

/-- `bwr <REG>, <DATA>` (R100). -/
def bwrWord (reg data : Byte) : UWord := microword 0x1 false ⟨0, 0, reg, data⟩

/-- `brd s<A>, <len>, <REG>` (R100): the byte count field is `len - 1` (R99). -/
def brdWord (slot : BitVec 2) (len : Nat) (reg : Byte) : UWord :=
  microword 0x2 false ⟨slot, BitVec.ofNat 1 (len - 1), reg, 0⟩

/-- `wait settle` (R100, R103). -/
def waitSettleWord : UWord := microword 0x3 false ⟨0, 0, 0, 0⟩

/-- `wait integ` (R100, R103). -/
def waitIntegWord : UWord := microword 0x3 false ⟨1, 0, 0, 0⟩

/-- `commit` (R100). -/
def commitWord : UWord := microword 0x4 false ⟨0, 0, 0, 0⟩

/-- `end ready` (R100, R102). -/
def endReadyWord : UWord := microword 0x0 false ⟨0, 0, 0, 2⟩

/-- `end failed` (R100, R102). -/
def endFailedWord : UWord := microword 0x0 false ⟨0, 0, 0, 4⟩

/-- The ROM listing of R104, built from the parameters of R10 (R11). -/
def romOf (c : Config) : Rom :=
  ⟨#[ -- 0x00 INIT program
      bwrWord c.regGain c.valGain,
      waitSettleWord,
      bwrWord c.regCtrl c.valCtrl,
      waitSettleWord,
      endReadyWord,
      -- 0x05 MEASURE program
      bwrWord c.regInteg c.valIntArm,
      waitSettleWord,
      bwrWord c.regInteg c.valIntStart,
      waitIntegWord,
      brdWord 0 c.lenChannel c.regVbus,
      waitSettleWord,
      brdWord 1 c.lenChannel c.regVsense,
      waitSettleWord,
      brdWord 2 c.lenChannel c.regVpower,
      waitSettleWord,
      brdWord 3 c.lenOvf c.regOvf,
      commitWord,
      waitSettleWord,
      endReadyWord,
      -- 0x13 MEASURE abort tail
      waitSettleWord,
      endReadyWord,
      -- 0x15 INIT abort tail
      endFailedWord,
      -- 0x16 to 0x1F unused (D26)
      endFailedWord, endFailedWord, endFailedWord, endFailedWord, endFailedWord,
      endFailedWord, endFailedWord, endFailedWord, endFailedWord, endFailedWord], rfl⟩

end Sys2Proof.Machine
end

