-- ==== Sys2Proof/Machine/State.lean ====
section
/-! DEFINITION. The block's state (10_state.md), its ports (00_scope.md R9), the model's own fields, and the reasons a step
can stop. INVENTORY.md lists every field with its rule and its reset value. -/

namespace Sys2Proof.Machine

/-- STATE (R30, R95). Codes 6 and 7 are never written; this type has no value for them (log 14). -/
inductive BlockState where
  | uninit
  | initializing
  | ready
  | measuring
  | failed
  | closed
  deriving DecidableEq, Repr

/-- LAST_ERR (R39, R96). Code 3 is never written; this type has no value for it (log 14). -/
inductive ErrCode where
  | noError
  | busError
  | protocolError
  deriving DecidableEq, Repr

/-- XACT (R34): the one outstanding transport request. -/
inductive Xact where
  | idle
  | out (r : Request)
  deriving DecidableEq, Repr

/-- The four values of a sample: the staging bank S0..S3 (R36) and the committed bank C0..C3 (R37). -/
structure Bank where
  vbus   : HData
  vsense : HData
  vpower : HData
  ovf    : Byte
  deriving DecidableEq, Repr

/-- A bank's reset value (R36, R37). -/
def Bank.zero : Bank := ⟨0, 0, 0, 0⟩

structure State where
  /-- The instance's parameters (R10, R45): the model's own field, written by no step (log 6). -/
  cfg       : Config
  /-- The instance's microcode ROM (R45, R104): the model's own field, written by no step (log 7). -/
  rom       : Rom
  /-- STATE (R30) -/
  state     : BlockState
  /-- UPC (R32) -/
  upc       : UAddr
  /-- BRD_PH (R33): false is phase 0, true is phase 1. -/
  brdPh     : Bool
  /-- XACT (R34); the transport request port (R9) -/
  xact      : Xact
  /-- TARMED (R35) -/
  tarmed    : Bool
  /-- TCNT (R35), below 2^TIMER_W (log 8) -/
  tcnt      : Nat
  /-- S0..S3 (R36) -/
  staging   : Bank
  /-- C0..C3 (R37) -/
  committed : Bank
  /-- VALID (R38) -/
  valid     : Bool
  /-- LAST_ERR (R39) -/
  lastErr   : ErrCode
  /-- CMD_REJ (R40) -/
  cmdRej    : Bool
  /-- SEL (R41) -/
  sel       : BitVec 2
  /-- BUS_OWN (R42); the port bus_own (R9) -/
  busOwn    : Bool
  /-- The transport response port (R9): present only inside the XPORT step that delivers it (R151, log 5). -/
  xresp     : Option Response
  /-- The read data port of the host access (R9): the data of the last step, if that was a host read (log 5). -/
  rdata     : Option HData
  /-- The tape of events not yet taken: the model's own field (R8, log 1). -/
  sched     : List Event
  /-- How many events were drawn from `Config.freeEvent`: the model's own field (log 2). -/
  draws     : Nat
  deriving DecidableEq, Repr

/-- Why a step stops. -/
inductive Fault where
  /-- "unmodelled micro-operation" (R106, X6): raised by END, WAIT, RSVD_UOP and RSVD_B17 on a reserved microword, which
  only a ROM other than that of R104 holds. Safe. -/
  | unmodelledMicroOp
  /-- A transport response for which no rule R154 to R162 says what happens: raised by every micro-operation, in states no
  run reaches (log 12). Safe. -/
  | responseWithoutRule
  deriving DecidableEq, Repr

/-- Why an instruction has no meaning. -/
inductive Refusal where
  /-- An arm of `exec` not reached yet; raised by none. Safe. -/
  | notModelled (mnemonic : String)
  deriving DecidableEq, Repr

/-- What one instruction or one step answers. -/
abbrev Result := Host.Outcome State Fault Refusal

/-- The block right after reset (R270), built with the default parameters of R10, with nothing on the tape. -/
def State.reset : State where
  cfg       := Config.default
  rom       := romOf Config.default
  state     := .uninit
  upc       := 0x00
  brdPh     := false
  xact      := .idle
  tarmed    := false
  tcnt      := 0
  staging   := Bank.zero
  committed := Bank.zero
  valid     := false
  lastErr   := .noError
  cmdRej    := false
  sel       := 0
  busOwn    := false
  xresp     := none
  rdata     := none
  sched     := []
  draws     := 0

end Sys2Proof.Machine
end

