-- ==== Sys2Proof/Machine/Ops.lean ====
section
/-! DEFINITION. The named operations over the block's state that the instructions share, among them taking an error
(`abort`, 41_bus_sequencer.md R163) and the return from it (END, 42_timing_fsm.md R188), and the enabling of a SEQ step
(R152). Every operation writes exactly the fields its record names. -/

namespace Sys2Proof.Machine

/-- The states in which SEQ runs a program (R31). -/
def BlockState.busy : BlockState → Bool
  | .uninit => false
  | .initializing => true
  | .ready => false
  | .measuring => true
  | .failed => false
  | .closed => false

namespace State

/-- BUSY (R31), derived from STATE. -/
def busy (s : State) : Bool := s.state.busy

/-! ### The transport port -/

/-- `Issue(r)` (R13): XACT <- OUT(r). -/
def issue (s : State) (r : Request) : State := { s with xact := .out r }

/-- The response is consumed: XACT <- IDLE (R34). -/
def takeResponse (s : State) : State := { s with xact := .idle, xresp := none }

/-- A response with no request outstanding is discarded and changes no block state (R165). -/
def discardResponse (s : State) : State := { s with xresp := none }

/-- The transport response arrives at its port (R151). -/
def latchResponse (s : State) (r : Response) : State := { s with xresp := some r }

/-! ### The microsequencer -/

/-- A micro-operation retires: UPC <- UPC + 1 (R32). -/
def retire (s : State) : State := { s with upc := s.upc + 1 }

/-- BRD_PH <- b (R33). -/
def setPhase (s : State) (b : Bool) : State := { s with brdPh := b }

/-- A command starts the program at `entry` (R121, R122): STATE, UPC, BRD_PH. -/
def startProgram (s : State) (st : BlockState) (entry : UAddr) : State :=
  { s with state := st, upc := entry, brdPh := false }

/-- Where `abort` sends UPC (R163): the abort tail of the running program. In a state that runs no program the rule
writes no UPC (log 18). -/
def abortTarget (s : State) : UAddr :=
  match s.state with
  | .measuring => mAbort
  | .initializing => iAbort
  | .uninit => s.upc
  | .ready => s.upc
  | .failed => s.upc
  | .closed => s.upc

/-- TAKING AN ERROR: `abort(code)` (R163, R243): LAST_ERR, BRD_PH and UPC; nothing is saved. -/
def abort (s : State) (code : ErrCode) : State :=
  { s with lastErr := code, brdPh := false, upc := s.abortTarget }

/-- END OF A PROGRAM (R188), which is also the return from an abort (R244): STATE <- st, UPC <- 0, and the bus is released
on the way into FAILED. -/
def endProgram (s : State) (st : BlockState) : State :=
  { s with state := st, upc := 0, busOwn := if st = .failed then false else s.busOwn }

/-! ### The delay timer -/

/-- WAIT arms the timer (R183). -/
def armTimer (s : State) (n : Nat) : State := { s with tarmed := true, tcnt := n }

/-- WAIT retires: TARMED <- 0 (R185). -/
def disarmTimer (s : State) : State := { s with tarmed := false }

/-- A TICK event (R184): `if TARMED == 1 and TCNT > 0: TCNT <- TCNT - 1`. -/
def tick (s : State) : State := { s with tcnt := if s.tarmed then s.tcnt - 1 else s.tcnt }

/-! ### The sample banks -/

/-- A slot of the staging bank takes `v`; S3 takes `v[7:0]` (R160). -/
def stageValue (s : State) (slot : BitVec 2) (v : HData) : State :=
  { s with staging :=
      if slot = 0 then { s.staging with vbus := v }
      else if slot = 1 then { s.staging with vsense := v }
      else if slot = 2 then { s.staging with vpower := v }
      else { s.staging with ovf := v.extractLsb' 0 8 } }

/-- COMMIT publishes the staging bank (R212): C0..C3 and VALID in one step. -/
def commitStaging (s : State) : State := { s with committed := s.staging, valid := true }

/-! ### The host port -/

/-- The read data of a host access; a write returns none (R120). -/
def setRdata (s : State) (v : Option HData) : State := { s with rdata := v }

/-- SEL <- c (R128). -/
def setSel (s : State) (c : BitVec 2) : State := { s with sel := c }

/-- BUS_OWN <- b (R42). -/
def setBusOwn (s : State) (b : Bool) : State := { s with busOwn := b }

/-- RELEASE is accepted: STATE <- CLOSED (R123). -/
def close (s : State) : State := { s with state := .closed }

/-! ### Reset and the tape -/

/-- The RESET event (R270): every element of block state takes its reset value; the instance's parameters and ROM and the
agents' tape are no block state (R45, log 19). -/
def resetBlock (s : State) : State :=
  { State.reset with cfg := s.cfg, rom := s.rom, sched := s.sched, draws := s.draws }

/-- The event of the next step: the tape's first, or a free draw past the tape's end (R8, log 1, log 2). -/
def nextEvent (s : State) : Event :=
  match s.sched with
  | e :: _ => e
  | [] => Config.freeEvent s.draws

/-- The next event is taken off the tape, and the read data of the step before is gone (R9, log 5). -/
def takeEvent (s : State) : State :=
  match s.sched with
  | _ :: rest => { s with sched := rest, rdata := none }
  | [] => { s with draws := s.draws + 1, rdata := none }

end State

/-- XPORT "chooses a response of r's kind" (R151): the response its draw is, for the outstanding request (log 4). -/
def responseTo (r : Request) (a : Answer) : Response :=
  match r with
  | .write _ _ => if a.ok then .wOk else .wErr
  | .read _ _ => if a.ok then .rOk a.bytes else .rErr

/-- A step of the micro-operation at UPC (R151, R152). With XACT = IDLE and no response the micro-operation takes its own
step; while XACT = OUT it has none; a response to the outstanding request sets XACT <- IDLE and is handed on; a response
with no request outstanding is discarded (R165). -/
def sequenced (s : State) (own : Result) (consume : Response → State → Result) : Result :=
  match s.xact, s.xresp with
  | .idle, none => own
  | .idle, some _ => .next s.discardResponse
  | .out _, none => .next s
  | .out _, some r => consume r s.takeResponse

/-- The micro-operations that issue no request have no rule that consumes a response (log 12). -/
def noResponseRule (_ : Response) (_ : State) : Result := .fault .responseWithoutRule

end Sys2Proof.Machine
end

