-- ==== Sys2Proof/Machine/Operands.lean ====
section
/-! DEFINITION. The operand forms of the two formats (30_encoding.md R97, R101 to R103) and the byte pair
(43_sample_mux.md R210). Nothing is sign-extended or scaled (R101). -/

namespace Sys2Proof.Machine

/-- The channel operand of a SEL write: D[1:0]; D[15:2] is ignored (R97, R128). -/
def channelOf (d : HData) : BitVec 2 := d.extractLsb' 0 2

/-- The byte count of a BRD: L + 1 (R101). -/
def byteCount (f : UFields) : Nat := f.l.toNat + 1

/-- END's next state `DATA[2:0]`: 2 is READY, 4 is FAILED, any other value is reserved (R102, R106). -/
def endState (f : UFields) : Option BlockState :=
  if f.data.extractLsb' 0 3 = 2 then some .ready
  else if f.data.extractLsb' 0 3 = 4 then some .failed
  else none

/-- The ticks WAIT's DSEL selects: 0 is N_SETTLE, 1 is N_INTEG, 2 and 3 are reserved (R103, R106). -/
def delayOf (c : Config) (f : UFields) : Option Nat :=
  if f.a = 0 then some c.nSettle
  else if f.a = 1 then some c.nInteg
  else none

/-- `combine(b0, b1)` (R210): the first byte received is the high byte (R67). -/
def combine (b0 b1 : Byte) : HData := (b0.zeroExtend 16 <<< 8) ||| b1.zeroExtend 16

/-- The value of a BRD whose read returned `bs` (R160): none where the byte count is wrong (R161). -/
def readValue (f : UFields) (bs : List Byte) : Option HData :=
  match bs with
  | [b0] => if byteCount f = 1 then some (b0.zeroExtend 16) else none
  | [b0, b1] => if byteCount f = 2 then some (combine b0 b1) else none
  | _ => none

/-- The register write a BWR issues (R153): the pointer byte before the data byte (R66). -/
def writeRequest (c : Config) (f : UFields) : Request := .write c.devAddr [f.reg, f.data]

/-- The pointer write of a BRD (R156): exactly one byte. -/
def pointerRequest (c : Config) (f : UFields) : Request := .write c.devAddr [f.reg]

/-- The data read of a BRD (R159). -/
def dataRequest (c : Config) (f : UFields) : Request := .read c.devAddr (byteCount f)

/-- The readout multiplexer `MUX(SEL)` (R213): the committed bank only; OVF is zero-extended. -/
def mux (b : Bank) (sel : BitVec 2) : HData :=
  if sel = 0 then b.vbus
  else if sel = 1 then b.vsense
  else if sel = 2 then b.vpower
  else b.ovf.zeroExtend 16

end Sys2Proof.Machine
end

