-- ==== Sys2Proof/Machine/BusSequencer.lean ====
section
/-! DEFINITION. The bus-facing micro-operations BWR and BRD (41_bus_sequencer.md R153 to R162). -/

namespace Sys2Proof.Machine

/-- Completion of a BWR (R154, R155): on WOk it retires, on WErr it aborts. `s` has XACT = IDLE already. -/
def completeBwr (r : Response) (s : State) : Result :=
  match r with
  | .wOk => .next s.retire
  | .wErr => .next (s.abort .busError)
  | .rOk _ => .fault .responseWithoutRule
  | .rErr => .fault .responseWithoutRule

/-- BWR (R153 to R155). -/
def execUopBwr (f : UFields) (s : State) : Result :=
  sequenced s (.next (s.issue (writeRequest s.cfg f))) completeBwr

/-- Completion of a BRD's pointer write (R157, R158): the data read is next, with UPC unchanged. -/
def completePointer (r : Response) (s : State) : Result :=
  match r with
  | .wOk => .next (s.setPhase true)
  | .wErr => .next (s.abort .busError)
  | .rOk _ => .fault .responseWithoutRule
  | .rErr => .fault .responseWithoutRule

/-- Completion of a BRD's data read (R160 to R162): only the byte count is checked (D28). -/
def completeData (f : UFields) (r : Response) (s : State) : Result :=
  match r with
  | .rOk bs =>
    match readValue f bs with
    | some v => .next ((s.stageValue f.a v).setPhase false).retire
    | none => .next (s.abort .protocolError)
  | .rErr => .next (s.abort .busError)
  | .wOk => .fault .responseWithoutRule
  | .wErr => .fault .responseWithoutRule

/-- BRD (R156 to R162): phase 0 is the pointer write, phase 1 the data read (R33). -/
def execUopBrd (f : UFields) (s : State) : Result :=
  if s.brdPh then
    sequenced s (.next (s.issue (dataRequest s.cfg f))) (completeData f)
  else
    sequenced s (.next (s.issue (pointerRequest s.cfg f))) completePointer

end Sys2Proof.Machine
end

