-- ==== Sys2Proof/Machine/Flags.lean ====
section
/-! DEFINITION. The status flags (10_state.md R38 to R42): the STATUS word (30_encoding.md R94 to R96), and how a command
writes the flags when it is accepted and when it is rejected (60_exceptions.md R242). -/

namespace Sys2Proof.Machine

/-- The STATE codes (R95). -/
def BlockState.code : BlockState → BitVec 3
  | .uninit => 0
  | .initializing => 1
  | .ready => 2
  | .measuring => 3
  | .failed => 4
  | .closed => 5

/-- The LAST_ERR codes (R96). -/
def ErrCode.code : ErrCode → BitVec 2
  | .noError => 0
  | .busError => 1
  | .protocolError => 2

namespace State

/-- `STATUS = zext_16({BUS_OWN, CMD_REJ, LAST_ERR[1:0], VALID, BUSY, STATE[2:0]})` (R94). -/
def statusWord (s : State) : HData :=
  (BitVec.ofBool s.busOwn ++ BitVec.ofBool s.cmdRej ++ s.lastErr.code ++ BitVec.ofBool s.valid
    ++ BitVec.ofBool s.busy ++ s.state.code).zeroExtend 16

/-- An accepted command clears LAST_ERR and CMD_REJ (R39, R40). -/
def clearFlags (s : State) : State := { s with lastErr := .noError, cmdRej := false }

/-- A command that is not accepted sets CMD_REJ "and does nothing else" (R242). -/
def reject (s : State) : State := { s with cmdRej := true }

end State

/-- A write of CMD: `act` where the command is accepted, with the flags cleared; rejected otherwise. It returns no data. -/
def command (s : State) (accepted : Bool) (act : State → State) : Result :=
  .next ((if accepted then (act s).clearFlags else s.reject).setRdata none)

/-- A host read: `rdata <- v`; "No host read has a side effect" (R63). -/
def hostRead (s : State) (v : HData) : Result := .next (s.setRdata (some v))

/-- A host write that has no effect (R63); it returns no data. -/
def hostWriteIgnored (s : State) : Result := .next (s.setRdata none)

end Sys2Proof.Machine
end

