-- ==== Sys2Proof/Machine/HostAccess.lean ====
section
/-! DEFINITION. The host register accesses (40_host_interface.md R121 to R132), one meaning per row of the H21 decode map.
"A host access always completes in one HOST step." -/

namespace Sys2Proof.Machine

/-- HW_CMD_INIT (R121): accepted in UNINIT only. -/
def execHwCmdInit (_ign : Byte) (s : State) : Result :=
  command s (s.state == .uninit) fun s => (s.startProgram .initializing initEntry).setBusOwn true

/-- HW_CMD_MEASURE (R122): accepted in READY only. -/
def execHwCmdMeasure (_ign : Byte) (s : State) : Result :=
  command s (s.state == .ready) fun s => s.startProgram .measuring measEntry

/-- RELEASE is accepted in UNINIT, READY and FAILED (R93, R123). -/
def releasable (st : BlockState) : Bool := st == .uninit || st == .ready || st == .failed

/-- HW_CMD_RELEASE (R123). -/
def execHwCmdRelease (_ign : Byte) (s : State) : Result :=
  command s (releasable s.state) fun s => s.close.setBusOwn false

/-- HW_CMD_OTHER (R124): a reserved command code is rejected. -/
def execHwCmdOther (_d : HData) (s : State) : Result := command s false id

/-- HR_CMD (R125). -/
def execHrCmd (_d : HData) (s : State) : Result := hostRead s 0x0000

/-- HR_STATUS (R126): the live value. -/
def execHrStatus (_d : HData) (s : State) : Result := hostRead s s.statusWord

/-- HW_STATUS (R127): no effect. -/
def execHwStatus (_d : HData) (s : State) : Result := hostWriteIgnored s

/-- HW_SEL (R128): allowed in every state. -/
def execHwSel (d : HData) (s : State) : Result := .next ((s.setSel (channelOf d)).setRdata none)

/-- HR_SEL (R129). -/
def execHrSel (_d : HData) (s : State) : Result := hostRead s (s.sel.zeroExtend 16)

/-- HR_SAMPLE (R130). -/
def execHrSample (_d : HData) (s : State) : Result := hostRead s (mux s.committed s.sel)

/-- HW_SAMPLE (R131): no effect. -/
def execHwSample (_d : HData) (s : State) : Result := hostWriteIgnored s

/-- HR_RSVD (R132): a reserved offset reads 0x0000. -/
def execHrRsvd (_a : HAddr) (_d : HData) (s : State) : Result := hostRead s 0x0000

/-- HW_RSVD (R132): no effect; CMD_REJ is not set. -/
def execHwRsvd (_a : HAddr) (_d : HData) (s : State) : Result := hostWriteIgnored s

end Sys2Proof.Machine
end

