-- ==== Sys2Proof/Machine/Reserved.lean ====
section
/-! DEFINITION. The reserved microwords (30_encoding.md R106, 93_implementation_defined.md X6): "A model that takes the ROM
as a parameter faults on fetching one". -/

namespace Sys2Proof.Machine

/-- RSVD_UOP (R106): a UOP of 0x5 to 0xF. -/
def execRsvdUop (_uop : BitVec 4) (_body : BitVec 20) (_s : State) : Result := .fault .unmodelledMicroOp

/-- RSVD_B17 (R106): bit 17 is 1. -/
def execRsvdB17 (_uop : BitVec 4) (_f : UFields) (_s : State) : Result := .fault .unmodelledMicroOp

end Sys2Proof.Machine
end

