-- ==== Sys2Proof/Machine/SampleMux.lean ====
section
/-! DEFINITION. The micro-operation COMMIT (43_sample_mux.md R212). -/

namespace Sys2Proof.Machine

/-- COMMIT (R212): "All of this happens in one atomic SEQ step." -/
def execUopCommit (_f : UFields) (s : State) : Result :=
  sequenced s (.next s.commitStaging.retire) noResponseRule

end Sys2Proof.Machine
end

