-- ==== Sys2Proof/Machine/Timing.lean ====
section
/-! DEFINITION. The micro-operations WAIT and END (42_timing_fsm.md R183, R185, R188). -/

namespace Sys2Proof.Machine

/-- WAIT's own step for a delay of `n` ticks: arm (R183), retire once TCNT is 0 (R185), and in between no step. -/
def waitStep (n : Nat) (s : State) : Result :=
  if s.tarmed then
    if s.tcnt = 0 then .next s.disarmTimer.retire else .next s
  else .next (s.armTimer n)

/-- WAIT (R183, R185); a reserved DSEL is an unmodelled micro-operation (R106). -/
def execUopWait (f : UFields) (s : State) : Result :=
  match delayOf s.cfg f with
  | some n => sequenced s (waitStep n s) noResponseRule
  | none => .fault .unmodelledMicroOp

/-- END (R188); a reserved next state is an unmodelled micro-operation (R106). -/
def execUopEnd (f : UFields) (s : State) : Result :=
  match endState f with
  | some st => sequenced s (.next (s.endProgram st)) noResponseRule
  | none => .fault .unmodelledMicroOp

end Sys2Proof.Machine
end

