-- ==== Sys2Proof/Machine/Dispatch.lean ====
section
/-! DEFINITION. The meaning of every instruction, one arm each. -/

namespace Sys2Proof.Machine

def exec (i : Instr) (s : State) : Host.Outcome State Fault Refusal :=
  match i with
  -- 40_host_interface.md
  | .hwCmdInit ign => Sys2Proof.Machine.execHwCmdInit ign s
  | .hwCmdMeasure ign => Sys2Proof.Machine.execHwCmdMeasure ign s
  | .hwCmdRelease ign => Sys2Proof.Machine.execHwCmdRelease ign s
  | .hwCmdOther d => Sys2Proof.Machine.execHwCmdOther d s
  | .hrCmd d => Sys2Proof.Machine.execHrCmd d s
  | .hrStatus d => Sys2Proof.Machine.execHrStatus d s
  | .hwStatus d => Sys2Proof.Machine.execHwStatus d s
  | .hwSel d => Sys2Proof.Machine.execHwSel d s
  | .hrSel d => Sys2Proof.Machine.execHrSel d s
  | .hrSample d => Sys2Proof.Machine.execHrSample d s
  | .hwSample d => Sys2Proof.Machine.execHwSample d s
  | .hrRsvd a d => Sys2Proof.Machine.execHrRsvd a d s
  | .hwRsvd a d => Sys2Proof.Machine.execHwRsvd a d s
  -- 41_bus_sequencer.md, 42_timing_fsm.md, 43_sample_mux.md
  | .uopEnd f => Sys2Proof.Machine.execUopEnd f s
  | .uopBwr f => Sys2Proof.Machine.execUopBwr f s
  | .uopBrd f => Sys2Proof.Machine.execUopBrd f s
  | .uopWait f => Sys2Proof.Machine.execUopWait f s
  | .uopCommit f => Sys2Proof.Machine.execUopCommit f s
  -- 30_encoding.md R106
  | .rsvdUop uop body => Sys2Proof.Machine.execRsvdUop uop body s
  | .rsvdB17 uop f => Sys2Proof.Machine.execRsvdB17 uop f s

end Sys2Proof.Machine
end

