-- ==== Sys2Proof/Machine/Agents.lean ====
section
/-! DEFINITION. One step of each agent (00_scope.md R7), and how a single code word is placed where the next step runs it. -/

namespace Sys2Proof.Machine

/-- `uw <- ROM[UPC]` (R152), decoded. -/
def fetched (s : State) : Instr := decodeMicro (romAt s.rom s.upc)

/-- A HOST step (R120): enabled in every state. -/
def hostStep (w : HWord) (s : State) : Result := exec (decodeHost w) s

/-- SEQ has a step of its own (R152): "only while BUSY = 1", and not while XACT = OUT. -/
def seqEnabled (s : State) : Bool := s.busy && s.xact == .idle

/-- A SEQ step (R152); where SEQ has none, nothing happens (log 3). -/
def seqStep (s : State) : Result :=
  if seqEnabled s then exec (fetched s) s else .next s

/-- An XPORT step (R151): the response arrives and the micro-operation at UPC consumes it, as one atomic step; with no
request outstanding it is discarded (R165). -/
def xportStep (a : Answer) (s : State) : Result :=
  match s.xact with
  | .idle => .next s
  | .out r => exec (fetched s) (s.latchResponse (responseTo r a))

/-- The step of the agent an event names. -/
def agentStep (e : Event) (s : State) : Result :=
  match e with
  | .host w => hostStep w s
  | .seq => seqStep s
  | .xport a => xportStep a s
  | .tick => .next s.tick
  | .reset => .next s.resetBlock

/-- A host access word is placed at the head of the tape. -/
def placeHostWord (s : State) (w : HWord) : State := { s with sched := .host w :: s.sched }

/-- A microword is placed in the ROM at UPC, SEQ is given the next step, and the block is made able to take it: BUSY
(MEASURING, where no program runs) and XACT = IDLE (R152, log 13). -/
def placeMicroword (s : State) (w : UWord) : State :=
  { s with rom := s.rom.set s.upc.toNat w s.upc.isLt, state := if s.busy then s.state else .measuring,
           xact := .idle, xresp := none, sched := .seq :: s.sched }

/-- A word of the opcode table is placed where the next step runs it, in the space `decodeTableWord` reads it in. -/
def placeTableWord (s : State) (w : Nat) : State :=
  match tableSpace w with
  | .host => placeHostWord s (BitVec.ofNat 21 w)
  | .rom => placeMicroword s (BitVec.ofNat 24 w)

end Sys2Proof.Machine
end

