-- ==== Sys2Proof/Machine/Step.lean ====
section
/-! DEFINITION. One step of the machine: the next event's agent takes one atomic step (00_scope.md R8). -/

namespace Sys2Proof.Machine

def step (s : State) : Host.Outcome State Fault Refusal := agentStep s.nextEvent s.takeEvent

/-- `s` with a word of the opcode table placed so that the next step runs it (log 13). -/
def State.withFetchWord (s : State) (_nbits w : Nat) : State := placeTableWord s w

end Sys2Proof.Machine
end

