-- ==== Sys2Proof/Machine/HostProgram.lean ====
section
/-! DEFINITION. The host's notation for its accesses (30_encoding.md R91) and its pseudo-instructions (R107), as H21 words. -/

namespace Sys2Proof.Machine

/-- `hw <REG>, <imm16>` (R91). -/
def hw (reg : HAddr) (imm : HData) : HWord := hostWord true reg imm

/-- `hr <REG>` (R91). -/
def hr (reg : HAddr) : HWord := hostWord false reg 0

/-- The offsets of the host register map (R61). -/
def regCMD : HAddr := 0x0
def regSTATUS : HAddr := 0x1
def regSEL : HAddr := 0x2
def regSAMPLE : HAddr := 0x3

/-- `init` (R107). -/
def hostInit : HWord := hw regCMD 0x0001

/-- `measure` (R107). -/
def hostMeasure : HWord := hw regCMD 0x0002

/-- `release` (R107). -/
def hostRelease : HWord := hw regCMD 0x0003

/-- The access `poll` repeats (R107). -/
def hostPoll : HWord := hr regSTATUS

/-- `poll` ends at the first STATUS value whose bit 3 is 0 (R107). -/
def pollEnds (status : HData) : Bool := !status.getLsbD 3

/-- `sample k` (R107). -/
def hostSample (k : BitVec 2) : List HWord := [hw regSEL (k.zeroExtend 16), hr regSAMPLE]

/-- `snapshot` (R107). -/
def hostSnapshot : List HWord := hostSample 0 ++ hostSample 1 ++ hostSample 2 ++ hostSample 3

end Sys2Proof.Machine
end

