-- ==== Sys2Proof/Machine/HostReference.lean ====
section
/-! DEFINITION. The host-side reference conversion (43_sample_mux.md R217 to R219), which is no hardware of the block:
nothing in `step` uses it. It evaluates the source's formulas in IEEE 754 binary64, left to right (R218), on the values the
formulas can have: zero and positive normal numbers (log 16). -/

namespace Sys2Proof.Machine

/-- A binary64 value that is zero or positive and normal: `m * 2^e`, with `m = 0` or `2^52 ≤ m < 2^53`. -/
structure B64 where
  m : Nat
  e : Int
  deriving DecidableEq, Repr

/-- `q = num * 2^sh / den`, rounded to nearest with ties to even, as a 53-bit significand times `2^(-sh)`. -/
def B64.roundAt (num den : Nat) (sh : Int) : B64 :=
  let n := num * 2 ^ sh.toNat
  let d := den * 2 ^ (-sh).toNat
  let q := n / d
  let r := n % d
  let q' := if 2 * r > d ∨ (2 * r = d ∧ q % 2 = 1) then q + 1 else q
  if q' = 2 ^ 53 then ⟨2 ^ 52, 1 - sh⟩ else ⟨q', -sh⟩

/-- The binary64 value nearest to `num / den`, ties to even. -/
def B64.ofRatio (num den : Nat) : B64 :=
  if num = 0 then ⟨0, 0⟩
  else
    let sh : Int := 52 - ((Nat.log2 num : Int) - (Nat.log2 den : Int))
    if num * 2 ^ sh.toNat < den * 2 ^ (-sh).toNat * 2 ^ 52 then B64.roundAt num den (sh + 1)
    else B64.roundAt num den sh

/-- Correctly rounded product. -/
def B64.mul (x y : B64) : B64 :=
  let e := x.e + y.e
  B64.ofRatio (x.m * y.m * 2 ^ e.toNat) (2 ^ (-e).toNat)

/-- Correctly rounded quotient. -/
def B64.div (x y : B64) : B64 :=
  let e := x.e - y.e
  B64.ofRatio (x.m * 2 ^ e.toNat) (y.m * 2 ^ (-e).toNat)

/-- The binary64 value of an integer. -/
def B64.ofNat (n : Nat) : B64 := B64.ofRatio n 1

/-- The full-scale code of the conversion (R217, R219): "do not 'fix' to a power-of-two value". -/
def fullScale : B64 := B64.ofNat 65408

/-- `v_bus = v_bus_code * 16 / 65408` (R217), volts. -/
def vBus (code : HData) : B64 := ((B64.ofNat code.toNat).mul (B64.ofNat 16)).div fullScale

/-- `v_sense = v_sense_code * 0.1 / 65408` (R217), volts. -/
def vSense (code : HData) : B64 := ((B64.ofNat code.toNat).mul (B64.ofRatio 1 10)).div fullScale

/-- `i_sense = v_sense / 0.02` (R217), amps. -/
def iSense (code : HData) : B64 := (vSense code).div (B64.ofRatio 2 100)

/-- `v_power = v_power_code * 80 / 65408` (R217), watts. -/
def vPower (code : HData) : B64 := ((B64.ofNat code.toNat).mul (B64.ofNat 80)).div fullScale

end Sys2Proof.Machine
end

