-- ==== Sys2Proof/Safety.lean ====
section
/-! DEFINITION. The terms claims are stated in: the invariant of reachable states, runs and what can be observed along them
(00_scope.md R6), and the end of a run (70_reset_and_hazards.md R283). -/

namespace Sys2Proof

/-- What the microsequencer does with an instruction's word (R99 to R106); `none` for a host access. -/
inductive UopKind where
  | none | endProgram | write | read | wait | commit | reserved
  deriving DecidableEq, Repr

def Instr.kind : Instr → UopKind
  | .uopEnd _ => .endProgram
  | .uopBwr _ => .write
  | .uopBrd _ => .read
  | .uopWait _ => .wait
  | .uopCommit _ => .commit
  | .rsvdUop _ _ | .rsvdB17 _ _ => .reserved
  | .hwCmdInit _ | .hwCmdMeasure _ | .hwCmdRelease _ | .hwCmdOther _ | .hrCmd _ | .hrStatus _ | .hwStatus _
  | .hwSel _ | .hrSel _ | .hrSample _ | .hwSample _ | .hrRsvd _ _ | .hwRsvd _ _ => .none

end Sys2Proof

namespace Sys2Proof.Machine

/-- The requests micro-operation `i` makes, in phase `ph` (R153, R156, R159). -/
def requestOf (c : Config) (i : Instr) (ph : Bool) : Option Request :=
  match i with
  | .uopBwr f => if ph then none else some (writeRequest c f)
  | .uopBrd f => some (if ph then dataRequest c f else pointerRequest c f)
  | .hwCmdInit _ | .hwCmdMeasure _ | .hwCmdRelease _ | .hwCmdOther _ | .hrCmd _ | .hrStatus _ | .hwStatus _
  | .hwSel _ | .hrSel _ | .hrSample _ | .hwSample _ | .hrRsvd _ _ | .hwRsvd _ _ | .uopEnd _ | .uopWait _
  | .uopCommit _ | .rsvdUop _ _ | .rsvdB17 _ _ => none

/-- The instance is built as the spec says: parameters within R10's bounds, and the ROM the listing of R104 for them. -/
def State.built (s : State) : Prop := s.cfg.wf = true ∧ s.rom = romOf s.cfg

/-- R43: the block holds the bus in exactly three states. -/
def BlockState.holdsBus (st : BlockState) : Bool := st == .initializing || st == .ready || st == .measuring

/-- The program addresses of the two busy states (R104, R105, R163); 0 while no program runs. -/
def upcInProgram (st : BlockState) (upc : UAddr) : Prop :=
  match st with
  | .initializing => upc.toNat ≤ 0x04 ∨ upc = iAbort
  | .measuring => 0x05 ≤ upc.toNat ∧ upc.toNat ≤ 0x14
  | .uninit | .ready | .failed | .closed => upc = 0

/-- R38, R212: no sample is committed before the first COMMIT, which comes at 0x10 of a MEASURE. -/
def validFits (s : State) : Prop :=
  match s.state with
  | .uninit => s.valid = false
  | .initializing => s.valid = false
  | .failed => s.valid = false
  | .measuring => s.upc = 0x11 ∨ s.upc = 0x12 → s.valid = true
  | .ready | .closed => True

/-- R39, R163: LAST_ERR is written only by `abort` and cleared by every accepted command, so while a program runs it is set
exactly in the program's abort tail; FAILED records BUS_ERROR (R240). -/
def lastErrFits (s : State) : Prop :=
  match s.state with
  | .uninit => s.lastErr = .noError
  | .initializing => s.lastErr = if s.upc = iAbort then .busError else .noError
  | .measuring => s.lastErr = .noError ↔ s.upc.toNat < mAbort.toNat
  | .ready => True
  | .failed => s.lastErr = .busError
  | .closed => s.lastErr = .noError

/-- What holds in every state a run of a built instance reaches from reset. -/
structure State.Inv (s : State) : Prop where
  built : s.built
  /-- R43 -/
  busOwn : s.busOwn = s.state.holdsBus
  /-- R104, R105, R163: UPC stays in the program the state runs. -/
  upc : upcInProgram s.state s.upc
  /-- R33: BRD_PH is 0 whenever the micro-operation at UPC is not BRD. -/
  phase : s.brdPh = true → (fetched s).kind = .read
  /-- R34: an outstanding request implies BUSY, and is the one of the micro-operation at UPC. -/
  xact : ∀ r, s.xact = .out r → s.busy = true ∧ requestOf s.cfg (fetched s) s.brdPh = some r
  /-- R35: TARMED implies BUSY and a WAIT at UPC. -/
  tarmed : s.tarmed = true → s.busy = true ∧ (fetched s).kind = .wait
  /-- R35: TCNT fits in TIMER_W bits, and is 0 while no WAIT counts. -/
  tcnt : s.tcnt < 2 ^ s.cfg.timerW ∧ (s.tarmed = false → s.tcnt = 0)
  /-- R37, R38: the committed bank is the reset zeros until the first COMMIT. -/
  unset : s.valid = false → s.committed = Bank.zero
  valid : validFits s
  lastErr : lastErrFits s
  /-- No response waits between steps (R151). -/
  xresp : s.xresp = none

/-! ### Runs -/

/-- `k` steps of the machine. -/
def run (k : Nat) (s : State) : Result := Host.Core.run Sys2Proof.core k s

/-- The tape is set to `es`. -/
def State.withTape (s : State) (es : List Event) : State := { s with sched := es }

/-- A whole tape is run. -/
def runTape (es : List Event) (s : State) : Result := run es.length (s.withTape es)

/-- The state after `k` steps, if the run gets there. -/
def stateAt (s : State) (k : Nat) : Option State :=
  match run k s with
  | .next t => some t
  | .fault _ => none
  | .refused _ => none

/-- The request a step issues (R6): XACT goes from IDLE to OUT. -/
def requestIssued (s t : State) : Option Request :=
  match s.xact, t.xact with
  | .idle, .out r => some r
  | .idle, .idle => none
  | .out _, .idle => none
  | .out _, .out _ => none

/-- The bus trace of `k` steps: the requests issued, in order (R6). -/
def busTrace : Nat → State → List Request
  | 0, _ => []
  | k + 1, s =>
    match step s with
    | .next t => (requestIssued s t).toList ++ busTrace k t
    | .fault _ => []
    | .refused _ => []

/-- How many of the next `k` steps are TICK steps. -/
def ticksIn : Nat → State → Nat
  | 0, _ => 0
  | k + 1, s =>
    match step s with
    | .next t => (if s.nextEvent = .tick then 1 else 0) + ticksIn k t
    | .fault _ => 0
    | .refused _ => 0

/-- Some step among the next `k` is the retire step of a WAIT, and comes before any reset (R185). -/
def waitRetiresIn : Nat → State → Bool
  | 0, _ => false
  | k + 1, s =>
    match step s with
    | .next t =>
      if s.nextEvent = .reset then false
      else if s.tarmed && !t.tarmed then true
      else waitRetiresIn k t
    | .fault _ => false
    | .refused _ => false

/-- None of the next `k` steps is a reset. -/
def noResetIn : Nat → State → Bool
  | 0, _ => true
  | k + 1, s =>
    match step s with
    | .next t => s.nextEvent ≠ .reset && noResetIn k t
    | .fault _ => true
    | .refused _ => true

/-- A host program's run has ended (R283): no host access is left on the tape, BUSY = 0 and XACT = IDLE. -/
def State.runEnded (s : State) : Bool :=
  !(s.sched.any fun e => match e with | .host _ => true | _ => false) && !s.busy && s.xact == .idle

/-- The fields of the block that no host access can observe (R36, R250): UPC, BRD_PH, XACT, the delay timer and the staging
bank take the values of `u`. -/
def State.withHidden (s u : State) : State :=
  { s with upc := u.upc, brdPh := u.brdPh, xact := u.xact, tarmed := u.tarmed, tcnt := u.tcnt, staging := u.staging,
           xresp := u.xresp }

/-! ### What a program still owes -/

/-- The requests of the ROM's straight line from `upc` to its END (R104, R189, R190); `fuel` bounds the walk. -/
def requestsFrom (c : Config) (rom : Rom) : Nat → UAddr → List Request
  | 0, _ => []
  | fuel + 1, upc =>
    match decodeMicro (romAt rom upc) with
    | .uopBwr f => writeRequest c f :: requestsFrom c rom fuel (upc + 1)
    | .uopBrd f => pointerRequest c f :: dataRequest c f :: requestsFrom c rom fuel (upc + 1)
    | i => if i.kind = .endProgram then [] else requestsFrom c rom fuel (upc + 1)

/-- The requests the running program has still to issue if nothing fails: those from UPC on, less the current
micro-operation's that are issued already. -/
def remainingRequests (s : State) : List Request :=
  if s.busy then
    (requestsFrom s.cfg s.rom romDepth s.upc).drop
      ((if s.brdPh then 1 else 0) + (if s.xact = .idle then 0 else 1))
  else []

/-- The ticks the WAITs of the ROM's straight line from `upc` to its END count (R183). -/
def ticksFrom (c : Config) (rom : Rom) : Nat → UAddr → Nat
  | 0, _ => 0
  | fuel + 1, upc =>
    match decodeMicro (romAt rom upc) with
    | .uopWait f => (delayOf c f).getD 0 + ticksFrom c rom fuel (upc + 1)
    | i => if i.kind = .endProgram then 0 else ticksFrom c rom fuel (upc + 1)

/-- The ticks the running program has still to count if nothing fails (R282). -/
def remainingTicks (s : State) : Nat :=
  if s.busy then
    if s.tarmed then s.tcnt + ticksFrom s.cfg s.rom romDepth (s.upc + 1)
    else ticksFrom s.cfg s.rom romDepth s.upc
  else 0

/-! ### Tapes of the programs R189 and R190 -/

/-- A micro-operation makes one request and XPORT answers it. -/
def exchange (a : Answer) : List Event := [.seq, .xport a]

/-- XPORT's success without data. -/
def okAnswer : Answer := ⟨true, []⟩

/-- A register read that returns `bs` (R70). -/
def readExchange (bs : List Byte) : List Event := exchange okAnswer ++ exchange ⟨true, bs⟩

/-- A WAIT that counts `n` ticks and retires. -/
def waitTape (n : Nat) : List Event := .seq :: (List.replicate n .tick ++ [.seq])

/-- The INIT program with both writes answered WOk. -/
def initTape (c : Config) : List Event :=
  .host hostInit :: (exchange okAnswer ++ waitTape c.nSettle ++ exchange okAnswer ++ waitTape c.nSettle ++ [.seq])

/-- The MEASURE program with every write answered WOk and the four reads answered by `b`, `v`, `p` and `o`. -/
def measureTape (c : Config) (b v p o : List Byte) : List Event :=
  .host hostMeasure ::
    (exchange okAnswer ++ waitTape c.nSettle ++ exchange okAnswer ++ waitTape c.nInteg
      ++ readExchange b ++ waitTape c.nSettle ++ readExchange v ++ waitTape c.nSettle
      ++ readExchange p ++ waitTape c.nSettle ++ readExchange o
      ++ [.seq] ++ waitTape c.nSettle ++ [.seq])

end Sys2Proof.Machine
end

