-- ==== Sys2Proof/Certificates/Slice0/Obligations.lean ====
section
/-! DEFINITION. The statements for the provers. A docstring names the rule of spec/ a statement formalises; OBLIGATIONS.json
lists them. -/

open Sys2Proof Sys2Proof.Machine

/-! ## Encoding -/

/-- Decode and encode agree, for every instruction and every operand (30_encoding.md R91, R92, R99, R100). -/
def Obligations.DecodeOfEncodeIsTheInstruction : Prop :=
  ∀ i : Instr, i.wellFormed = true → decode (encode i) = i

/-- Every code word of either format is the encoding of the well-formed instruction it decodes to; no bit is dropped. -/
def Obligations.EncodeOfDecodeIsTheWord : Prop :=
  ∀ c : CodeWord, encode (decode c) = c ∧ (decode c).wellFormed = true

/-- R92, row by row. -/
def Obligations.HostWordsDecodeByTheDecodeMap : Prop :=
  ∀ (w : HWord) (a : HAddr) (d : HData) (hi code : Byte),
    a = w.extractLsb' 16 4 → d = w.extractLsb' 0 16 → hi = w.extractLsb' 8 8 → code = w.extractLsb' 0 8 →
    (w.getLsbD 20 = true → a = 0x0 → code = 0x01 → decodeHost w = .hwCmdInit hi) ∧
    (w.getLsbD 20 = true → a = 0x0 → code = 0x02 → decodeHost w = .hwCmdMeasure hi) ∧
    (w.getLsbD 20 = true → a = 0x0 → code = 0x03 → decodeHost w = .hwCmdRelease hi) ∧
    (w.getLsbD 20 = true → a = 0x0 → code ≠ 0x01 → code ≠ 0x02 → code ≠ 0x03 → decodeHost w = .hwCmdOther d) ∧
    (w.getLsbD 20 = false → a = 0x0 → decodeHost w = .hrCmd d) ∧
    (w.getLsbD 20 = false → a = 0x1 → decodeHost w = .hrStatus d) ∧
    (w.getLsbD 20 = true → a = 0x1 → decodeHost w = .hwStatus d) ∧
    (w.getLsbD 20 = true → a = 0x2 → decodeHost w = .hwSel d) ∧
    (w.getLsbD 20 = false → a = 0x2 → decodeHost w = .hrSel d) ∧
    (w.getLsbD 20 = false → a = 0x3 → decodeHost w = .hrSample d) ∧
    (w.getLsbD 20 = true → a = 0x3 → decodeHost w = .hwSample d) ∧
    (w.getLsbD 20 = false → 0x4 ≤ a.toNat → decodeHost w = .hrRsvd a d) ∧
    (w.getLsbD 20 = true → 0x4 ≤ a.toNat → decodeHost w = .hwRsvd a d)

/-- R99, R100, R106: the UOP codes and the reserved microwords, for every 24-bit word. Which reserved instruction a word
with a reserved UOP and bit 17 set is, is the model's choice (log 10). -/
def Obligations.MicrowordsDecodeByUop : Prop :=
  ∀ (w : UWord) (uop : BitVec 4) (f : UFields),
    uop = w.extractLsb' 20 4 →
    f = ⟨w.extractLsb' 18 2, w.extractLsb' 16 1, w.extractLsb' 8 8, w.extractLsb' 0 8⟩ →
    (w.getLsbD 17 = false → uop = 0x0 → decodeMicro w = .uopEnd f) ∧
    (w.getLsbD 17 = false → uop = 0x1 → decodeMicro w = .uopBwr f) ∧
    (w.getLsbD 17 = false → uop = 0x2 → decodeMicro w = .uopBrd f) ∧
    (w.getLsbD 17 = false → uop = 0x3 → decodeMicro w = .uopWait f) ∧
    (w.getLsbD 17 = false → uop = 0x4 → decodeMicro w = .uopCommit f) ∧
    (0x5 ≤ uop.toNat → decodeMicro w = .rsvdUop uop (w.extractLsb' 0 20)) ∧
    (w.getLsbD 17 = true → uop.toNat < 0x5 → decodeMicro w = .rsvdB17 uop f)

/-- A few words written out from R91, R93 and R104 decode to the instructions they stand for. -/
def Obligations.WrittenOutWordsDecode : Prop :=
  decodeHost 0b1_0000_00000000_00000001#21 = .hwCmdInit 0x00 ∧
  decodeHost 0b1_0010_0000000000000110#21 = .hwSel 0x0006 ∧
  decodeHost 0b0_0011_0000000000000000#21 = .hrSample 0x0000 ∧
  decodeMicro 0b0001_00_0_0_00000001_00111111#24 = .uopBwr ⟨0, 0, 0x01, 0x3F⟩ ∧
  decodeMicro 0b0010_10_0_1_00011101_00000000#24 = .uopBrd ⟨2, 1, 0x1D, 0x00⟩ ∧
  decodeMicro 0b0011_01_0_0_00000000_00000000#24 = .uopWait ⟨1, 0, 0x00, 0x00⟩

/-- R104: the ROM's 32 words, for every value of the three OPEN register pointers, which stand in the REG field (bits 15
to 8) of the words 0x00, 0x02, 0x05 and 0x07. -/
def Obligations.RomHoldsTheListing : Prop :=
  ∀ gain integ ctrl : Byte,
    (romOf { Config.default with regGain := gain, regInteg := integ, regCtrl := ctrl }).toList =
    [0x10#8 ++ gain ++ 0x01#8, 0x300000, 0x10#8 ++ ctrl ++ 0x02#8, 0x300000, 0x000002,
     0x10#8 ++ integ ++ 0x3F#8, 0x300000, 0x10#8 ++ integ ++ 0x3E#8, 0x340000, 0x211000, 0x300000, 0x251200, 0x300000,
     0x291D00, 0x300000, 0x2C1C00, 0x400000, 0x300000, 0x000002,
     0x300000, 0x000002, 0x000004] ++ List.replicate 10 0x000004

/-! ## Steps and reset -/

/-- The step of an agent runs the instruction its word decodes to: a HOST access (R120), SEQ's micro-operation at UPC
(R152), and the micro-operation at UPC when XPORT answers its request (R151). Around it the step takes the event off the
tape, clears the read data port, and delivers the response. -/
def Obligations.StepRunsTheDecodedInstruction : Prop :=
  ∀ (s : State) (i : Instr) (rest : List Event), i.wellFormed = true →
    (∀ w, encode i = .host w → s.sched = .host w :: rest →
      step s = exec i { s with sched := rest, rdata := none }) ∧
    (encode i = .rom (romAt s.rom s.upc) → s.busy = true → s.xact = .idle → s.sched = .seq :: rest →
      step s = exec i { s with sched := rest, rdata := none }) ∧
    (∀ r a, encode i = .rom (romAt s.rom s.upc) → s.xact = .out r → s.sched = .xport a :: rest →
      step s = exec i { s with sched := rest, rdata := none, xresp := some (responseTo r a) })

/-- An event whose agent has no step changes nothing: SEQ while BUSY = 0 or XACT = OUT (R152), a response with XACT = IDLE
(R165). That such an event passes as a step is the model's choice (log 3). -/
def Obligations.DisabledAgentsChangeNothing : Prop :=
  ∀ (s : State) (rest : List Event),
    (s.busy = false → s.sched = .seq :: rest → step s = .next { s with sched := rest, rdata := none }) ∧
    (∀ r, s.xact = .out r → s.sched = .seq :: rest → step s = .next { s with sched := rest, rdata := none }) ∧
    (∀ a, s.xact = .idle → s.sched = .xport a :: rest → step s = .next { s with sched := rest, rdata := none })

/-- R270: a RESET step in any state. R270 says what becomes of block state; that the parameters and the ROM, which are no
block state (R45), and the rest of the tape stay is the model's reading (log 19, DEDUCED). -/
def Obligations.ResetSetsEveryElement : Prop :=
  ∀ (s : State) (rest : List Event), s.sched = .reset :: rest →
    ∃ t, step s = .next t ∧ t.state = .uninit ∧ t.upc = 0 ∧ t.brdPh = false ∧ t.xact = .idle ∧
      t.tarmed = false ∧ t.tcnt = 0 ∧ t.staging = ⟨0, 0, 0, 0⟩ ∧ t.committed = ⟨0, 0, 0, 0⟩ ∧
      t.valid = false ∧ t.lastErr = .noError ∧ t.cmdRej = false ∧ t.sel = 0 ∧ t.busOwn = false ∧
      t.busy = false ∧ t.statusWord = 0x0000 ∧ t.cfg = s.cfg ∧ t.rom = s.rom ∧ t.sched = rest

/-- The invariant of reachable states holds right after reset. -/
def Obligations.InvariantHoldsAtReset : Prop := State.reset.Inv

/-- HEADLINE. Every step of every agent keeps the invariant: the control, the timer, the outstanding request, the flags and
the committed bank stay consistent (R33, R34, R35, R37, R38, R43). -/
def Obligations.EveryStepKeepsTheInvariant : Prop :=
  ∀ s t : State, s.Inv → step s = .next t → t.Inv

/-- Nothing stops a built block: under the invariant every event is a step, so no fault is reachable (R106). -/
def Obligations.InvariantStatesNeverStop : Prop :=
  ∀ s : State, s.Inv → ∃ t, step s = .next t

/-! ## Host accesses -/

/-- R121. -/
def Obligations.InitStartsTheProgramOrIsRejected : Prop :=
  ∀ (ign : Byte) (s : State),
    (s.state = .uninit → exec (.hwCmdInit ign) s = .next { s with
      state := .initializing, upc := 0x00, brdPh := false, busOwn := true, lastErr := .noError, cmdRej := false,
      rdata := none }) ∧
    (s.state ≠ .uninit → exec (.hwCmdInit ign) s = .next { s with cmdRej := true, rdata := none })

/-- R122. -/
def Obligations.MeasureStartsTheProgramOrIsRejected : Prop :=
  ∀ (ign : Byte) (s : State),
    (s.state = .ready → exec (.hwCmdMeasure ign) s = .next { s with
      state := .measuring, upc := 0x05, brdPh := false, lastErr := .noError, cmdRej := false, rdata := none }) ∧
    (s.state ≠ .ready → exec (.hwCmdMeasure ign) s = .next { s with cmdRej := true, rdata := none })

/-- R123. -/
def Obligations.ReleaseClosesOrIsRejected : Prop :=
  ∀ (ign : Byte) (s : State),
    (s.state = .uninit ∨ s.state = .ready ∨ s.state = .failed → exec (.hwCmdRelease ign) s = .next { s with
      state := .closed, busOwn := false, lastErr := .noError, cmdRej := false, rdata := none }) ∧
    (s.state = .initializing ∨ s.state = .measuring ∨ s.state = .closed →
      exec (.hwCmdRelease ign) s = .next { s with cmdRej := true, rdata := none })

/-- R124. -/
def Obligations.ReservedCommandIsRejected : Prop :=
  ∀ (d : HData) (s : State), exec (.hwCmdOther d) s = .next { s with cmdRej := true, rdata := none }

/-- R242, from the word on the host port: a CMD write that the block does not accept sets CMD_REJ and changes nothing else. -/
def Obligations.RejectedCommandOnlySetsCmdRej : Prop :=
  ∀ (s : State) (hi code : Byte) (rest : List Event),
    s.sched = .host (hostWord true 0x0 (hi ++ code)) :: rest →
    ¬ ((code = 0x01 ∧ s.state = .uninit) ∨ (code = 0x02 ∧ s.state = .ready) ∨
       (code = 0x03 ∧ (s.state = .uninit ∨ s.state = .ready ∨ s.state = .failed))) →
    step s = .next { s with cmdRej := true, rdata := none, sched := rest }

/-- R39, R40, R242, from the word on the host port: an accepted command clears LAST_ERR and CMD_REJ, and keeps the sample,
SEL, the timer, XACT and the staging bank. -/
def Obligations.AcceptedCommandClearsTheFlags : Prop :=
  ∀ (s : State) (hi code : Byte) (rest : List Event),
    s.sched = .host (hostWord true 0x0 (hi ++ code)) :: rest →
    ((code = 0x01 ∧ s.state = .uninit) ∨ (code = 0x02 ∧ s.state = .ready) ∨
       (code = 0x03 ∧ (s.state = .uninit ∨ s.state = .ready ∨ s.state = .failed))) →
    ∃ t, step s = .next t ∧ t.lastErr = .noError ∧ t.cmdRej = false ∧ t.rdata = none ∧
      t.state = (if code = 0x01 then .initializing else if code = 0x02 then .measuring else .closed) ∧
      t.valid = s.valid ∧ t.committed = s.committed ∧ t.staging = s.staging ∧ t.sel = s.sel ∧ t.xact = s.xact ∧
      t.tarmed = s.tarmed ∧ t.tcnt = s.tcnt ∧ t.cfg = s.cfg ∧ t.rom = s.rom ∧ t.sched = rest

/-- R125, R126, R129, R130: every read of a defined register returns its value and changes nothing else. -/
def Obligations.HostReadsReturnTheirRegister : Prop :=
  ∀ (d status : HData) (s : State),
    status = (BitVec.ofBool s.busOwn ++ BitVec.ofBool s.cmdRej ++ s.lastErr.code ++ BitVec.ofBool s.valid ++
      BitVec.ofBool s.busy ++ s.state.code).zeroExtend 16 →
    exec (.hrCmd d) s = .next { s with rdata := some 0x0000 } ∧
    exec (.hrStatus d) s = .next { s with rdata := some status } ∧
    exec (.hrSel d) s = .next { s with rdata := some (s.sel.zeroExtend 16) } ∧
    (s.sel = 0 → exec (.hrSample d) s = .next { s with rdata := some s.committed.vbus }) ∧
    (s.sel = 1 → exec (.hrSample d) s = .next { s with rdata := some s.committed.vsense }) ∧
    (s.sel = 2 → exec (.hrSample d) s = .next { s with rdata := some s.committed.vpower }) ∧
    (s.sel = 3 → exec (.hrSample d) s = .next { s with rdata := some (s.committed.ovf.zeroExtend 16) })

/-- R127, R131, R132: these writes have no effect and return no data; a reserved offset reads 0. -/
def Obligations.IgnoredAccessesChangeNothing : Prop :=
  ∀ (d : HData) (a : HAddr) (s : State),
    exec (.hwStatus d) s = .next { s with rdata := none } ∧
    exec (.hwSample d) s = .next { s with rdata := none } ∧
    exec (.hwRsvd a d) s = .next { s with rdata := none } ∧
    exec (.hrRsvd a d) s = .next { s with rdata := some 0x0000 }

/-- R128: SEL <- D[1:0], in every state; D[15:2] is ignored. -/
def Obligations.SelWriteTakesTheLowBits : Prop :=
  ∀ (d : HData) (s : State),
    ∃ t, exec (.hwSel d) s = .next t ∧ t.sel.toNat = d.toNat % 4 ∧ t = { s with sel := t.sel, rdata := none }

/-- R94, R95, R96: where each field of STATUS stands, for every state. -/
def Obligations.StatusWordLayout : Prop :=
  ∀ (s : State) (v : HData), v = s.statusWord →
    v.extractLsb' 0 3 = (match s.state with
      | .uninit => 0 | .initializing => 1 | .ready => 2 | .measuring => 3 | .failed => 4 | .closed => 5) ∧
    v.getLsbD 3 = (s.state == .initializing || s.state == .measuring) ∧
    v.getLsbD 4 = s.valid ∧
    v.extractLsb' 5 2 = (match s.lastErr with | .noError => 0 | .busError => 1 | .protocolError => 2) ∧
    v.getLsbD 7 = s.cmdRej ∧
    v.getLsbD 8 = s.busOwn ∧
    v.extractLsb' 9 7 = 0

/-- R120: a HOST step is enabled in every state, for every word; it performs the access its word decodes to; a write returns
no data and a read does. -/
def Obligations.HostStepIsEnabledInEveryState : Prop :=
  ∀ (s : State) (w : HWord) (rest : List Event), s.sched = .host w :: rest →
    ∃ t, step s = .next t ∧ exec (decodeHost w) { s with sched := rest, rdata := none } = .next t ∧
      (w.getLsbD 20 = true → t.rdata = none) ∧ (w.getLsbD 20 = false → t.rdata ≠ none)

/-- No HOST step touches the transport port, the timer, the sample banks, VALID, the parameters or the ROM (R34, R35, R36,
R37, R38, R75). -/
def Obligations.HostStepFrame : Prop :=
  ∀ (s t : State) (w : HWord) (rest : List Event), s.sched = .host w :: rest → step s = .next t →
    t.xact = s.xact ∧ t.xresp = s.xresp ∧ t.tarmed = s.tarmed ∧ t.tcnt = s.tcnt ∧ t.staging = s.staging ∧
    t.committed = s.committed ∧ t.valid = s.valid ∧ t.cfg = s.cfg ∧ t.rom = s.rom ∧ t.sched = rest ∧ t.draws = s.draws

/-- R192: while a program runs, no host access disturbs it: only CMD_REJ, SEL and the read data can change. -/
def Obligations.NoHostAccessDisturbsAProgram : Prop :=
  ∀ (s : State) (w : HWord) (rest : List Event), s.sched = .host w :: rest → s.busy = true →
    ∃ t, step s = .next t ∧
      t = { s with cmdRej := t.cmdRej, sel := t.sel, rdata := t.rdata, sched := rest } ∧
      (w.getLsbD 20 = true → w.extractLsb' 16 4 = 0x0#4 → t.cmdRej = true)

/-- R63: no host read has a side effect, and two reads of one offset in a row return the same value. -/
def Obligations.HostReadsAreIdempotent : Prop :=
  ∀ (s : State) (v w : HWord) (rest : List Event), s.sched = .host v :: .host w :: rest →
    v.getLsbD 20 = false → w.getLsbD 20 = false → v.extractLsb' 16 4 = w.extractLsb' 16 4 →
    ∃ t u, step s = .next t ∧ step t = .next u ∧ t.rdata = u.rdata ∧ t.rdata ≠ none ∧
      t = { s with rdata := t.rdata, sched := .host w :: rest } ∧ u = { s with rdata := u.rdata, sched := rest }

/-- R281, R130, R213: a SEL write is seen by the very next HOST step. -/
def Obligations.SelWriteIsSeenByTheNextSampleRead : Prop :=
  ∀ (s : State) (d : HData) (rest : List Event), s.sched = .host (hw regSEL d) :: .host (hr regSAMPLE) :: rest →
    ∃ t, run 2 s = .next t ∧
      t.rdata = some (if d.toNat % 4 = 0 then s.committed.vbus else if d.toNat % 4 = 1 then s.committed.vsense
        else if d.toNat % 4 = 2 then s.committed.vpower else s.committed.ovf.zeroExtend 16) ∧
      t = { s with sel := t.sel, rdata := t.rdata, sched := rest }

/-- R107, R213, R216: a snapshot reads the four values of the committed bank, in the order of the channels. -/
def Obligations.SnapshotReadsTheCommittedBank : Prop :=
  ∀ (s : State) (rest : List Event), s.sched = hostSnapshot.map .host ++ rest →
    (stateAt s 2).bind State.rdata = some s.committed.vbus ∧
    (stateAt s 4).bind State.rdata = some s.committed.vsense ∧
    (stateAt s 6).bind State.rdata = some s.committed.vpower ∧
    (stateAt s 8).bind State.rdata = some (s.committed.ovf.zeroExtend 16) ∧
    (stateAt s 8).map State.committed = some s.committed

/-- R36, R250: what the host reads, and what a command does to the visible fields, does not depend on UPC, BRD_PH, XACT, the
timer or the staging bank. -/
def Obligations.HiddenStateIsNotObservable : Prop :=
  ∀ (s u : State) (w : HWord) (rest : List Event), s.sched = .host w :: rest →
    ∃ t t', step s = .next t ∧ step (s.withHidden u) = .next t' ∧ t.rdata = t'.rdata ∧ t.state = t'.state ∧
      t.committed = t'.committed ∧ t.valid = t'.valid ∧ t.lastErr = t'.lastErr ∧ t.cmdRej = t'.cmdRej ∧
      t.sel = t'.sel ∧ t.busOwn = t'.busOwn

/-! ## The register sequencer -/

/-- R153, R156, R159: BWR and BRD issue their request, and only XACT changes. -/
def Obligations.BusOperationsIssueTheirRequest : Prop :=
  ∀ (f : UFields) (s : State), s.xact = .idle → s.xresp = none →
    exec (.uopBwr f) s = .next { s with xact := .out (.write s.cfg.devAddr [f.reg, f.data]) } ∧
    (s.brdPh = false → exec (.uopBrd f) s = .next { s with xact := .out (.write s.cfg.devAddr [f.reg]) }) ∧
    (s.brdPh = true → exec (.uopBrd f) s = .next { s with xact := .out (.read s.cfg.devAddr (f.l.toNat + 1)) })

/-- R154: on WOk a BWR retires. -/
def Obligations.BwrRetiresOnSuccess : Prop :=
  ∀ (f : UFields) (s : State) (r : Request), s.xact = .out r → s.xresp = some .wOk →
    exec (.uopBwr f) s = .next { s with xact := .idle, xresp := none, upc := s.upc + 1 }

/-- R155, R158, R162, R163: an error response aborts with BUS_ERROR, to MABORT or IABORT; nothing else changes. -/
def Obligations.BusErrorAborts : Prop :=
  ∀ (f : UFields) (s : State) (r : Request) (target : UAddr), s.xact = .out r →
    (s.state = .measuring ∧ target = 0x13 ∨ s.state = .initializing ∧ target = 0x15) →
    (s.xresp = some .wErr → exec (.uopBwr f) s = .next { s with
      xact := .idle, xresp := none, lastErr := .busError, brdPh := false, upc := target }) ∧
    (s.xresp = some .wErr → s.brdPh = false → exec (.uopBrd f) s = .next { s with
      xact := .idle, xresp := none, lastErr := .busError, brdPh := false, upc := target }) ∧
    (s.xresp = some .rErr → s.brdPh = true → exec (.uopBrd f) s = .next { s with
      xact := .idle, xresp := none, lastErr := .busError, brdPh := false, upc := target })

/-- R157: after the pointer write the data read is next, with no delay and UPC unchanged. -/
def Obligations.BrdGoesOnToTheDataRead : Prop :=
  ∀ (f : UFields) (s : State) (r : Request), s.xact = .out r → s.xresp = some .wOk → s.brdPh = false →
    exec (.uopBrd f) s = .next { s with xact := .idle, xresp := none, brdPh := true }

/-- R160, R210: the right byte count fills the slot, big-endian, and the BRD retires; only its slot of the staging bank
changes. -/
def Obligations.BrdStoresTheBytesItReceives : Prop :=
  ∀ (f : UFields) (s : State) (r : Request) (bs : List Byte),
    s.xact = .out r → s.xresp = some (.rOk bs) → s.brdPh = true → bs.length = f.l.toNat + 1 →
    ∃ t v, exec (.uopBrd f) s = .next t ∧
      v = (if f.l = 1 then (bs.getD 0 0).toNat * 256 + (bs.getD 1 0).toNat else (bs.getD 0 0).toNat) ∧
      (f.a = 0 → t.staging = { s.staging with vbus := BitVec.ofNat 16 v }) ∧
      (f.a = 1 → t.staging = { s.staging with vsense := BitVec.ofNat 16 v }) ∧
      (f.a = 2 → t.staging = { s.staging with vpower := BitVec.ofNat 16 v }) ∧
      (f.a = 3 → t.staging = { s.staging with ovf := BitVec.ofNat 8 v }) ∧
      t = { s with staging := t.staging, xact := .idle, xresp := none, brdPh := false, upc := s.upc + 1 }

/-- R161, R163: a wrong byte count aborts with PROTOCOL_ERROR; the staging slot is not written. -/
def Obligations.WrongByteCountAborts : Prop :=
  ∀ (f : UFields) (s : State) (r : Request) (bs : List Byte) (target : UAddr),
    s.xact = .out r → s.xresp = some (.rOk bs) → s.brdPh = true → bs.length ≠ f.l.toNat + 1 →
    (s.state = .measuring ∧ target = 0x13 ∨ s.state = .initializing ∧ target = 0x15) →
    exec (.uopBrd f) s = .next { s with
      xact := .idle, xresp := none, lastErr := .protocolError, brdPh := false, upc := target }

/-- R210, R214: `combine(b0, b1) = b0 * 256 + b1`, and both bytes can be read back from the code. -/
def Obligations.CombineIsBigEndian : Prop :=
  ∀ b0 b1 : Byte, (combine b0 b1).toNat = b0.toNat * 256 + b1.toNat ∧
    (combine b0 b1).extractLsb' 8 8 = b0 ∧ (combine b0 b1).extractLsb' 0 8 = b1

/-! ## Timing and the end of a program -/

/-- R183, R185: WAIT arms with N_SETTLE or N_INTEG, and retires once TCNT is 0. While TCNT counts, R152 and R185 give SEQ no
step; that the instruction then answers the unchanged state (the third clause) is the model's choice (log 3). -/
def Obligations.WaitArmsAndRetires : Prop :=
  ∀ (f : UFields) (s : State) (n : Nat), s.xact = .idle → s.xresp = none →
    (f.a = 0 ∧ n = s.cfg.nSettle ∨ f.a = 1 ∧ n = s.cfg.nInteg) →
    (s.tarmed = false → exec (.uopWait f) s = .next { s with tarmed := true, tcnt := n }) ∧
    (s.tarmed = true → s.tcnt = 0 → exec (.uopWait f) s = .next { s with tarmed := false, upc := s.upc + 1 }) ∧
    (s.tarmed = true → 0 < s.tcnt → exec (.uopWait f) s = .next s)

/-- R184: a TICK step is enabled in every state, counts TCNT down while the timer is armed, and does nothing else; `k` of
them in a row take `k` off TCNT, and never below 0. -/
def Obligations.TicksCountDown : Prop :=
  ∀ (s : State) (k : Nat),
    ∃ t, runTape (List.replicate k .tick) s = .next t ∧
      t.tcnt = (if s.tarmed then s.tcnt - k else s.tcnt) ∧
      t = { s with tcnt := t.tcnt, rdata := t.rdata, sched := [] }

/-- R188: END into READY keeps the bus, END into FAILED releases it. -/
def Obligations.EndSetsTheNextState : Prop :=
  ∀ (f : UFields) (s : State), s.xact = .idle → s.xresp = none →
    (f.data.toNat % 8 = 2 → exec (.uopEnd f) s = .next { s with state := .ready, upc := 0 }) ∧
    (f.data.toNat % 8 = 4 → exec (.uopEnd f) s = .next { s with state := .failed, upc := 0, busOwn := false })

/-- R212: COMMIT publishes the staging bank. -/
def Obligations.CommitPublishesTheStagingBank : Prop :=
  ∀ (f : UFields) (s : State), s.xact = .idle → s.xresp = none →
    exec (.uopCommit f) s = .next { s with committed := s.staging, valid := true, upc := s.upc + 1 }

/-- R106: every reserved microword stops with the fault "unmodelled micro-operation". -/
def Obligations.ReservedMicrowordsFault : Prop :=
  ∀ (uop : BitVec 4) (body : BitVec 20) (f : UFields) (s : State),
    exec (.rsvdUop uop body) s = .fault .unmodelledMicroOp ∧
    exec (.rsvdB17 uop f) s = .fault .unmodelledMicroOp ∧
    (2 ≤ f.a.toNat → exec (.uopWait f) s = .fault .unmodelledMicroOp) ∧
    (f.data.toNat % 8 ≠ 2 → f.data.toNat % 8 ≠ 4 → exec (.uopEnd f) s = .fault .unmodelledMicroOp)

/-- R186, in ticks: a WAIT that has armed with TCNT ticks to count does not retire before as many TICK steps. -/
def Obligations.WaitLastsItsTicks : Prop :=
  ∀ (k : Nat) (s : State), s.tarmed = true → waitRetiresIn k s = true → s.tcnt ≤ ticksIn k s

/-- R186, R187: in a conforming instance the ticks of a WAIT, less the one whose phase is unknown, make up more than
150 ms (settle) or 3 s (integration), at F_TICK ticks a second (a whole number of hertz, the model's choice: log 22). -/
def Obligations.ConformingWaitsMeetTheDelays : Prop :=
  ∀ (k : Nat) (s : State), s.cfg.sourceValues = true → s.cfg.conforming = true → s.tarmed = true →
    waitRetiresIn k s = true →
    (s.tcnt = s.cfg.nSettle → 150 * s.cfg.fTick ≤ 1000 * (ticksIn k s - 1)) ∧
    (s.tcnt = s.cfg.nInteg → 3000 * s.cfg.fTick ≤ 1000 * (ticksIn k s - 1))

/-! ## Rules about the whole machine -/

/-- R75: no host access, transport response or micro-operation writes the ROM. That no step, a RESET included, changes the
ROM or the parameters rests on R45, which says that they are no block state, and on the model's fields `rom` and `cfg` for
them (log 6 and log 7, DESIGN CHOICE; log 19, DEDUCED). -/
def Obligations.RomAndParametersNeverChange : Prop :=
  ∀ s t : State, step s = .next t → t.rom = s.rom ∧ t.cfg = s.cfg

/-- R37, R38, R216: the committed bank changes only at a COMMIT, all four values in one step and with VALID set, or at a
reset; nothing but a reset clears VALID. -/
def Obligations.CommittedBankChangesOnlyAtCommit : Prop :=
  ∀ s t : State, step s = .next t →
    (t.committed = s.committed ∧ t.valid = s.valid) ∨
    (s.nextEvent = .seq ∧ s.busy = true ∧ s.xact = .idle ∧ (fetched s).kind = .commit ∧
      t.committed = s.staging ∧ t.valid = true) ∨
    (s.nextEvent = .reset ∧ t.committed = Bank.zero ∧ t.valid = false)

/-- 42_timing_fsm.md section 4 (R30, R42): only the listed transitions of STATE exist, each with its UPC and the BUS_OWN
after it. -/
def Obligations.OnlyTheListedTransitionsExist : Prop :=
  ∀ s t : State, s.Inv → step s = .next t →
    (t.state = s.state ∧ (t.busOwn = s.busOwn)) ∨
    (s.nextEvent = .reset ∧ t.state = .uninit ∧ t.busOwn = false) ∨
    (s.state = .uninit ∧ t.state = .initializing ∧ t.busOwn = true) ∨
    (s.state = .uninit ∧ t.state = .closed ∧ t.busOwn = false) ∨
    (s.state = .initializing ∧ s.upc = 0x04 ∧ t.state = .ready ∧ t.busOwn = true) ∨
    (s.state = .initializing ∧ s.upc = 0x15 ∧ t.state = .failed ∧ t.busOwn = false) ∨
    (s.state = .ready ∧ t.state = .measuring ∧ t.busOwn = true) ∨
    (s.state = .ready ∧ t.state = .closed ∧ t.busOwn = false) ∨
    (s.state = .measuring ∧ s.upc = 0x12 ∧ t.state = .ready ∧ t.busOwn = true ∧ t.valid = true) ∨
    (s.state = .measuring ∧ s.upc = 0x14 ∧ t.state = .ready ∧ t.busOwn = true ∧ t.lastErr ≠ .noError) ∨
    (s.state = .failed ∧ t.state = .closed ∧ t.busOwn = false)

/-- R163, R243: an answer that is an error, in a running program, discards every effect of the failed operation except
LAST_ERR: the sample, VALID, the staging bank, SEL, STATE and BUS_OWN stay, and UPC is at the program's abort tail. -/
def Obligations.FailedRequestLeavesTheSampleAlone : Prop :=
  ∀ (s : State) (r : Request) (a : Answer) (rest : List Event), s.Inv → s.xact = .out r → a.ok = false →
    s.sched = .xport a :: rest →
    step s = .next { s with
      xact := .idle, brdPh := false, lastErr := .busError, upc := if s.state = .measuring then 0x13 else 0x15,
      rdata := none, sched := rest }

/-- R163, R188, R244: the return from an abort. MABORT waits the settle delay and ends in READY with the error recorded and
the sample kept; IABORT ends in FAILED with the bus released. The tape names the events; other orders are covered by
OnlyTheListedTransitionsExist. -/
def Obligations.AbortTailsReturn : Prop :=
  ∀ s : State, s.Inv →
    (s.state = .measuring → s.upc = 0x13 → s.tarmed = false →
      ∃ t, runTape (waitTape s.cfg.nSettle ++ [.seq]) s = .next t ∧ t.state = .ready ∧ t.upc = 0 ∧ t.busOwn = true ∧
        t.lastErr = s.lastErr ∧ t.committed = s.committed ∧ t.valid = s.valid ∧ t.xact = .idle) ∧
    (s.state = .initializing → s.upc = 0x15 →
      ∃ t, runTape [.seq] s = .next t ∧ t.state = .failed ∧ t.upc = 0 ∧ t.busOwn = false ∧ t.lastErr = .busError)

/-- R72, R164, R189, R190: whatever the agents' order, a running program issues exactly the requests of its straight line,
in order, each once; an error drops all that are left. Stated per step, on the requests still owed; the two programs owe
the lists of R189 and R190 when they start. -/
def Obligations.ProgramsIssueTheirRequestsInOrder : Prop :=
  (∀ s t : State, s.Inv → s.busy = true → step s = .next t → s.nextEvent ≠ .reset →
    (requestIssued s t).toList ++ remainingRequests t = remainingRequests s ∨
    (s.lastErr = .noError ∧ t.lastErr ≠ .noError ∧ requestIssued s t = none ∧ remainingRequests t = [])) ∧
  (∀ s : State, s.Inv → s.cfg.sourceValues = true → s.state = .initializing → s.upc = 0x00 → s.xact = .idle →
    remainingRequests s = [.write 0x4C [s.cfg.regGain, 0x01], .write 0x4C [s.cfg.regCtrl, 0x02]]) ∧
  (∀ s : State, s.Inv → s.cfg.sourceValues = true → s.state = .measuring → s.upc = 0x05 → s.xact = .idle →
    remainingRequests s =
      [.write 0x4C [s.cfg.regInteg, 0x3F], .write 0x4C [s.cfg.regInteg, 0x3E], .write 0x4C [0x10], .read 0x4C 2,
       .write 0x4C [0x12], .read 0x4C 2, .write 0x4C [0x1D], .read 0x4C 2, .write 0x4C [0x1C], .read 0x4C 1])

/-- R282, in ticks: whatever the agents' order, a program's WAITs count their ticks one TICK step each; INIT owes
2 * N_SETTLE of them and MEASURE 5 * N_SETTLE + N_INTEG when they start, and both owe none when they end. -/
def Obligations.ProgramsCountTheirTicks : Prop :=
  (∀ s t : State, s.Inv → s.busy = true → step s = .next t → s.nextEvent ≠ .reset → t.lastErr = s.lastErr →
    remainingTicks s ≤ (if s.nextEvent = .tick then 1 else 0) + remainingTicks t) ∧
  (∀ s : State, s.Inv → s.state = .initializing → s.upc = 0x00 → remainingTicks s = 2 * s.cfg.nSettle) ∧
  (∀ s : State, s.Inv → s.state = .measuring → s.upc = 0x05 →
    remainingTicks s = 5 * s.cfg.nSettle + s.cfg.nInteg)

/-- R191, request spacing: between two transport requests, the later one not the data read of a BRD, some WAIT has
counted down and retired, whatever the agents do, short of a reset. -/
def Obligations.RequestsAreSpacedByAWait : Prop :=
  ∀ (s t u : State) (k : Nat) (r r' : Request), s.Inv → s.xact = .out r → noResetIn k s = true →
    stateAt s k = some t → step t = .next u → requestIssued t u = some r' → t.brdPh = false →
    waitRetiresIn k s = true

/-- R151, R252: if XPORT never answers and no reset comes, the block stays BUSY with the request outstanding, whatever else
happens and for however long. -/
def Obligations.UnansweredRequestHangsTheBlock : Prop :=
  ∀ (s : State) (r : Request) (es : List Event), s.Inv → s.xact = .out r →
    (∀ e ∈ es, e ≠ .reset ∧ ∀ a, e ≠ .xport a) →
    ∃ t, runTape es s = .next t ∧ t.xact = .out r ∧ t.busy = true ∧ t.upc = s.upc ∧ t.committed = s.committed

/-- R189: from UNINIT, the INIT command with both writes answered WOk ends in READY with the bus held, after exactly the
two writes, for every value of the OPEN parameters and for the one order of events that `initTape` lists. -/
def Obligations.InitProgramReachesReady : Prop :=
  ∀ s : State, s.Inv → s.cfg.sourceValues = true → s.state = .uninit →
    ∃ t, runTape (initTape s.cfg) s = .next t ∧ t.state = .ready ∧ t.busOwn = true ∧ t.lastErr = .noError ∧
      t.cmdRej = false ∧ t.valid = false ∧ t.xact = .idle ∧ t.statusWord = 0x0102 ∧
      busTrace (initTape s.cfg).length (s.withTape (initTape s.cfg)) =
        [.write 0x4C [s.cfg.regGain, 0x01], .write 0x4C [s.cfg.regCtrl, 0x02]] ∧
      ticksIn (initTape s.cfg).length (s.withTape (initTape s.cfg)) = 2 * s.cfg.nSettle

/-- R190, R210, R212: from READY, the MEASURE command with every request answered commits exactly the bytes the sensor
returned, big-endian, after exactly the ten listed requests, for every value of the OPEN parameters and of the bytes, and
for the one order of events that `measureTape` lists. -/
def Obligations.MeasureProgramCommitsTheBytes : Prop :=
  ∀ (s : State) (b0 b1 v0 v1 p0 p1 o : Byte) (tape : List Event), s.Inv → s.cfg.sourceValues = true →
    s.state = .ready → tape = measureTape s.cfg [b0, b1] [v0, v1] [p0, p1] [o] →
    ∃ t, runTape tape s = .next t ∧ t.state = .ready ∧ t.busOwn = true ∧ t.valid = true ∧ t.lastErr = .noError ∧
      t.cmdRej = false ∧ t.sel = s.sel ∧ t.xact = .idle ∧ t.statusWord = 0x0112 ∧
      t.committed.vbus.toNat = b0.toNat * 256 + b1.toNat ∧
      t.committed.vsense.toNat = v0.toNat * 256 + v1.toNat ∧
      t.committed.vpower.toNat = p0.toNat * 256 + p1.toNat ∧
      t.committed.ovf = o ∧
      busTrace tape.length (s.withTape tape) =
        [.write 0x4C [s.cfg.regInteg, 0x3F], .write 0x4C [s.cfg.regInteg, 0x3E], .write 0x4C [0x10], .read 0x4C 2,
         .write 0x4C [0x12], .read 0x4C 2, .write 0x4C [0x1D], .read 0x4C 2, .write 0x4C [0x1C], .read 0x4C 1] ∧
      ticksIn tape.length (s.withTape tape) = 5 * s.cfg.nSettle + s.cfg.nInteg
end

