-- ==== Sys2Proof/Laws/Encoding.lean ====
section
/-! SUPPORT. The fields of an encoded word are the fields it was built from, and a word is built from its fields
(30_encoding.md R91, R99); what a ROM word decodes to. -/

namespace Sys2Proof

/-- Bits read back from a concatenation, one position at a time. -/
theorem bits_eq {n : Nat} {x y : BitVec n} (h : ∀ i, i < n → x.getLsbD i = y.getLsbD i) : x = y :=
  BitVec.eq_of_getLsbD_eq h

theorem hostWord_write (w : Bool) (a : HAddr) (d : HData) : (hostWord w a d).getLsbD 20 = w := by
  simp only [hostWord, BitVec.getLsbD_append]; cases w <;> rfl

theorem hostWord_offset (w : Bool) (a : HAddr) (d : HData) : (hostWord w a d).extractLsb' 16 4 = a := by
  apply bits_eq; intro i hi
  simp only [hostWord, BitVec.getLsbD_append, BitVec.getLsbD_extractLsb']
  interval_cases i <;> simp

theorem hostWord_data (w : Bool) (a : HAddr) (d : HData) : (hostWord w a d).extractLsb' 0 16 = d := by
  apply bits_eq; intro i hi
  simp only [hostWord, BitVec.getLsbD_append, BitVec.getLsbD_extractLsb']
  interval_cases i <;> simp

theorem hostWord_code (w : Bool) (a : HAddr) (hi lo : Byte) : (hostWord w a (hi ++ lo)).extractLsb' 0 8 = lo := by
  apply bits_eq; intro i hi'
  simp only [hostWord, BitVec.getLsbD_append, BitVec.getLsbD_extractLsb']
  interval_cases i <;> simp

theorem hostWord_ignored (w : Bool) (a : HAddr) (hi lo : Byte) : (hostWord w a (hi ++ lo)).extractLsb' 8 8 = hi := by
  apply bits_eq; intro i hi'
  simp only [hostWord, BitVec.getLsbD_append, BitVec.getLsbD_extractLsb']
  interval_cases i <;> simp

theorem hostWord_of_fields (w : HWord) :
    hostWord (w.getLsbD 20) (w.extractLsb' 16 4) (w.extractLsb' 0 16) = w := by
  apply bits_eq; intro i hi
  simp only [hostWord, BitVec.getLsbD_append, BitVec.getLsbD_extractLsb']
  interval_cases i <;> simp

theorem microword_uop (u : BitVec 4) (b : Bool) (f : UFields) : (microword u b f).extractLsb' 20 4 = u := by
  apply bits_eq; intro i hi
  simp only [microword, BitVec.getLsbD_append, BitVec.getLsbD_extractLsb']
  interval_cases i <;> simp

theorem microword_b17 (u : BitVec 4) (b : Bool) (f : UFields) : (microword u b f).getLsbD 17 = b := by
  simp only [microword, BitVec.getLsbD_append]; cases b <;> rfl

theorem microword_fields (u : BitVec 4) (b : Bool) (f : UFields) : microFields (microword u b f) = f := by
  obtain ⟨a, l, r, d⟩ := f
  simp only [microFields, UFields.mk.injEq]
  refine ⟨?_, ?_, ?_, ?_⟩ <;> apply bits_eq <;> intro i hi <;>
    simp only [microword, BitVec.getLsbD_append, BitVec.getLsbD_extractLsb'] <;> interval_cases i <;> simp

theorem microword_of_fields (w : UWord) : microword (w.extractLsb' 20 4) (w.getLsbD 17) (microFields w) = w := by
  apply bits_eq; intro i hi
  simp only [microword, microFields, BitVec.getLsbD_append, BitVec.getLsbD_extractLsb']
  interval_cases i <;> simp

theorem decodeMicro_end (f : UFields) : decodeMicro (microword 0x0 false f) = .uopEnd f := by
  simp only [decodeMicro]; rw [microword_uop, microword_b17, microword_fields]; rfl

theorem decodeMicro_bwr (f : UFields) : decodeMicro (microword 0x1 false f) = .uopBwr f := by
  simp only [decodeMicro]; rw [microword_uop, microword_b17, microword_fields]; rfl

theorem decodeMicro_brd (f : UFields) : decodeMicro (microword 0x2 false f) = .uopBrd f := by
  simp only [decodeMicro]; rw [microword_uop, microword_b17, microword_fields]; rfl

theorem decodeMicro_wait (f : UFields) : decodeMicro (microword 0x3 false f) = .uopWait f := by
  simp only [decodeMicro]; rw [microword_uop, microword_b17, microword_fields]; rfl

theorem decodeMicro_commit (f : UFields) : decodeMicro (microword 0x4 false f) = .uopCommit f := by
  simp only [decodeMicro]; rw [microword_uop, microword_b17, microword_fields]; rfl

namespace Machine

/-- The instruction at each program address of the ROM of R104, for any parameters. -/
def listed (c : Config) : Nat → Instr
  | 0x00 => .uopBwr ⟨0, 0, c.regGain, c.valGain⟩
  | 0x02 => .uopBwr ⟨0, 0, c.regCtrl, c.valCtrl⟩
  | 0x05 => .uopBwr ⟨0, 0, c.regInteg, c.valIntArm⟩
  | 0x07 => .uopBwr ⟨0, 0, c.regInteg, c.valIntStart⟩
  | 0x08 => .uopWait ⟨1, 0, 0, 0⟩
  | 0x09 => .uopBrd ⟨0, BitVec.ofNat 1 (c.lenChannel - 1), c.regVbus, 0⟩
  | 0x0B => .uopBrd ⟨1, BitVec.ofNat 1 (c.lenChannel - 1), c.regVsense, 0⟩
  | 0x0D => .uopBrd ⟨2, BitVec.ofNat 1 (c.lenChannel - 1), c.regVpower, 0⟩
  | 0x0F => .uopBrd ⟨3, BitVec.ofNat 1 (c.lenOvf - 1), c.regOvf, 0⟩
  | 0x10 => .uopCommit ⟨0, 0, 0, 0⟩
  | 0x01 | 0x03 | 0x06 | 0x0A | 0x0C | 0x0E | 0x11 | 0x13 => .uopWait ⟨0, 0, 0, 0⟩
  | 0x04 | 0x12 | 0x14 => .uopEnd ⟨0, 0, 0, 2⟩
  | _ => .uopEnd ⟨0, 0, 0, 4⟩

/-- An address below 32 as a UPC. -/
theorem uaddr_eq (a : UAddr) (k : Nat) (h : a.toNat = k) : a = BitVec.ofNat 5 k := by
  apply BitVec.eq_of_toNat_eq; rw [← h]; simp

/-- What SEQ fetches from the ROM of R104. -/
theorem decode_romOf (c : Config) (a : UAddr) : decodeMicro (romAt (romOf c) a) = listed c a.toNat := by
  have h : a.toNat < 32 := a.isLt
  generalize hk : a.toNat = k at h
  obtain rfl := uaddr_eq a k hk
  clear hk
  interval_cases k
  · exact decodeMicro_bwr _
  · exact decodeMicro_wait _
  · exact decodeMicro_bwr _
  · exact decodeMicro_wait _
  · exact decodeMicro_end _
  · exact decodeMicro_bwr _
  · exact decodeMicro_wait _
  · exact decodeMicro_bwr _
  · exact decodeMicro_wait _
  · exact decodeMicro_brd _
  · exact decodeMicro_wait _
  · exact decodeMicro_brd _
  · exact decodeMicro_wait _
  · exact decodeMicro_brd _
  · exact decodeMicro_wait _
  · exact decodeMicro_brd _
  · exact decodeMicro_commit _
  · exact decodeMicro_wait _
  · exact decodeMicro_end _
  · exact decodeMicro_wait _
  all_goals exact decodeMicro_end _

end Machine

end Sys2Proof
end

