-- ==== Sys2Proof/Laws/State.lean ====
section
/-! SUPPORT. One lemma per field per operation of Machine/Ops.lean and Machine/Flags.lean, so that no later proof unfolds a
record update. -/

namespace Sys2Proof.Machine.State

variable (s : State)

/-! ### issue (R13) -/

@[simp] theorem issue_cfg (r : Request) : (s.issue r).cfg = s.cfg := rfl
@[simp] theorem issue_rom (r : Request) : (s.issue r).rom = s.rom := rfl
@[simp] theorem issue_state (r : Request) : (s.issue r).state = s.state := rfl
@[simp] theorem issue_upc (r : Request) : (s.issue r).upc = s.upc := rfl
@[simp] theorem issue_brdPh (r : Request) : (s.issue r).brdPh = s.brdPh := rfl
@[simp] theorem issue_xact (r : Request) : (s.issue r).xact = .out r := rfl
@[simp] theorem issue_tarmed (r : Request) : (s.issue r).tarmed = s.tarmed := rfl
@[simp] theorem issue_tcnt (r : Request) : (s.issue r).tcnt = s.tcnt := rfl
@[simp] theorem issue_staging (r : Request) : (s.issue r).staging = s.staging := rfl
@[simp] theorem issue_committed (r : Request) : (s.issue r).committed = s.committed := rfl
@[simp] theorem issue_valid (r : Request) : (s.issue r).valid = s.valid := rfl
@[simp] theorem issue_lastErr (r : Request) : (s.issue r).lastErr = s.lastErr := rfl
@[simp] theorem issue_cmdRej (r : Request) : (s.issue r).cmdRej = s.cmdRej := rfl
@[simp] theorem issue_sel (r : Request) : (s.issue r).sel = s.sel := rfl
@[simp] theorem issue_busOwn (r : Request) : (s.issue r).busOwn = s.busOwn := rfl
@[simp] theorem issue_xresp (r : Request) : (s.issue r).xresp = s.xresp := rfl
@[simp] theorem issue_rdata (r : Request) : (s.issue r).rdata = s.rdata := rfl
@[simp] theorem issue_sched (r : Request) : (s.issue r).sched = s.sched := rfl
@[simp] theorem issue_draws (r : Request) : (s.issue r).draws = s.draws := rfl
@[simp] theorem issue_busy (r : Request) : (s.issue r).busy = s.busy := rfl

/-! ### takeResponse (R34) -/

@[simp] theorem takeResponse_cfg : (s.takeResponse).cfg = s.cfg := rfl
@[simp] theorem takeResponse_rom : (s.takeResponse).rom = s.rom := rfl
@[simp] theorem takeResponse_state : (s.takeResponse).state = s.state := rfl
@[simp] theorem takeResponse_upc : (s.takeResponse).upc = s.upc := rfl
@[simp] theorem takeResponse_brdPh : (s.takeResponse).brdPh = s.brdPh := rfl
@[simp] theorem takeResponse_xact : (s.takeResponse).xact = .idle := rfl
@[simp] theorem takeResponse_tarmed : (s.takeResponse).tarmed = s.tarmed := rfl
@[simp] theorem takeResponse_tcnt : (s.takeResponse).tcnt = s.tcnt := rfl
@[simp] theorem takeResponse_staging : (s.takeResponse).staging = s.staging := rfl
@[simp] theorem takeResponse_committed : (s.takeResponse).committed = s.committed := rfl
@[simp] theorem takeResponse_valid : (s.takeResponse).valid = s.valid := rfl
@[simp] theorem takeResponse_lastErr : (s.takeResponse).lastErr = s.lastErr := rfl
@[simp] theorem takeResponse_cmdRej : (s.takeResponse).cmdRej = s.cmdRej := rfl
@[simp] theorem takeResponse_sel : (s.takeResponse).sel = s.sel := rfl
@[simp] theorem takeResponse_busOwn : (s.takeResponse).busOwn = s.busOwn := rfl
@[simp] theorem takeResponse_xresp : (s.takeResponse).xresp = none := rfl
@[simp] theorem takeResponse_rdata : (s.takeResponse).rdata = s.rdata := rfl
@[simp] theorem takeResponse_sched : (s.takeResponse).sched = s.sched := rfl
@[simp] theorem takeResponse_draws : (s.takeResponse).draws = s.draws := rfl
@[simp] theorem takeResponse_busy : (s.takeResponse).busy = s.busy := rfl

/-! ### discardResponse (R165) -/

@[simp] theorem discardResponse_cfg : (s.discardResponse).cfg = s.cfg := rfl
@[simp] theorem discardResponse_rom : (s.discardResponse).rom = s.rom := rfl
@[simp] theorem discardResponse_state : (s.discardResponse).state = s.state := rfl
@[simp] theorem discardResponse_upc : (s.discardResponse).upc = s.upc := rfl
@[simp] theorem discardResponse_brdPh : (s.discardResponse).brdPh = s.brdPh := rfl
@[simp] theorem discardResponse_xact : (s.discardResponse).xact = s.xact := rfl
@[simp] theorem discardResponse_tarmed : (s.discardResponse).tarmed = s.tarmed := rfl
@[simp] theorem discardResponse_tcnt : (s.discardResponse).tcnt = s.tcnt := rfl
@[simp] theorem discardResponse_staging : (s.discardResponse).staging = s.staging := rfl
@[simp] theorem discardResponse_committed : (s.discardResponse).committed = s.committed := rfl
@[simp] theorem discardResponse_valid : (s.discardResponse).valid = s.valid := rfl
@[simp] theorem discardResponse_lastErr : (s.discardResponse).lastErr = s.lastErr := rfl
@[simp] theorem discardResponse_cmdRej : (s.discardResponse).cmdRej = s.cmdRej := rfl
@[simp] theorem discardResponse_sel : (s.discardResponse).sel = s.sel := rfl
@[simp] theorem discardResponse_busOwn : (s.discardResponse).busOwn = s.busOwn := rfl
@[simp] theorem discardResponse_xresp : (s.discardResponse).xresp = none := rfl
@[simp] theorem discardResponse_rdata : (s.discardResponse).rdata = s.rdata := rfl
@[simp] theorem discardResponse_sched : (s.discardResponse).sched = s.sched := rfl
@[simp] theorem discardResponse_draws : (s.discardResponse).draws = s.draws := rfl
@[simp] theorem discardResponse_busy : (s.discardResponse).busy = s.busy := rfl

/-! ### latchResponse (R151) -/

@[simp] theorem latchResponse_cfg (r : Response) : (s.latchResponse r).cfg = s.cfg := rfl
@[simp] theorem latchResponse_rom (r : Response) : (s.latchResponse r).rom = s.rom := rfl
@[simp] theorem latchResponse_state (r : Response) : (s.latchResponse r).state = s.state := rfl
@[simp] theorem latchResponse_upc (r : Response) : (s.latchResponse r).upc = s.upc := rfl
@[simp] theorem latchResponse_brdPh (r : Response) : (s.latchResponse r).brdPh = s.brdPh := rfl
@[simp] theorem latchResponse_xact (r : Response) : (s.latchResponse r).xact = s.xact := rfl
@[simp] theorem latchResponse_tarmed (r : Response) : (s.latchResponse r).tarmed = s.tarmed := rfl
@[simp] theorem latchResponse_tcnt (r : Response) : (s.latchResponse r).tcnt = s.tcnt := rfl
@[simp] theorem latchResponse_staging (r : Response) : (s.latchResponse r).staging = s.staging := rfl
@[simp] theorem latchResponse_committed (r : Response) : (s.latchResponse r).committed = s.committed := rfl
@[simp] theorem latchResponse_valid (r : Response) : (s.latchResponse r).valid = s.valid := rfl
@[simp] theorem latchResponse_lastErr (r : Response) : (s.latchResponse r).lastErr = s.lastErr := rfl
@[simp] theorem latchResponse_cmdRej (r : Response) : (s.latchResponse r).cmdRej = s.cmdRej := rfl
@[simp] theorem latchResponse_sel (r : Response) : (s.latchResponse r).sel = s.sel := rfl
@[simp] theorem latchResponse_busOwn (r : Response) : (s.latchResponse r).busOwn = s.busOwn := rfl
@[simp] theorem latchResponse_xresp (r : Response) : (s.latchResponse r).xresp = some r := rfl
@[simp] theorem latchResponse_rdata (r : Response) : (s.latchResponse r).rdata = s.rdata := rfl
@[simp] theorem latchResponse_sched (r : Response) : (s.latchResponse r).sched = s.sched := rfl
@[simp] theorem latchResponse_draws (r : Response) : (s.latchResponse r).draws = s.draws := rfl
@[simp] theorem latchResponse_busy (r : Response) : (s.latchResponse r).busy = s.busy := rfl

/-! ### retire (R32) -/

@[simp] theorem retire_cfg : (s.retire).cfg = s.cfg := rfl
@[simp] theorem retire_rom : (s.retire).rom = s.rom := rfl
@[simp] theorem retire_state : (s.retire).state = s.state := rfl
@[simp] theorem retire_upc : (s.retire).upc = s.upc + 1 := rfl
@[simp] theorem retire_brdPh : (s.retire).brdPh = s.brdPh := rfl
@[simp] theorem retire_xact : (s.retire).xact = s.xact := rfl
@[simp] theorem retire_tarmed : (s.retire).tarmed = s.tarmed := rfl
@[simp] theorem retire_tcnt : (s.retire).tcnt = s.tcnt := rfl
@[simp] theorem retire_staging : (s.retire).staging = s.staging := rfl
@[simp] theorem retire_committed : (s.retire).committed = s.committed := rfl
@[simp] theorem retire_valid : (s.retire).valid = s.valid := rfl
@[simp] theorem retire_lastErr : (s.retire).lastErr = s.lastErr := rfl
@[simp] theorem retire_cmdRej : (s.retire).cmdRej = s.cmdRej := rfl
@[simp] theorem retire_sel : (s.retire).sel = s.sel := rfl
@[simp] theorem retire_busOwn : (s.retire).busOwn = s.busOwn := rfl
@[simp] theorem retire_xresp : (s.retire).xresp = s.xresp := rfl
@[simp] theorem retire_rdata : (s.retire).rdata = s.rdata := rfl
@[simp] theorem retire_sched : (s.retire).sched = s.sched := rfl
@[simp] theorem retire_draws : (s.retire).draws = s.draws := rfl
@[simp] theorem retire_busy : (s.retire).busy = s.busy := rfl

/-! ### setPhase (R33) -/

@[simp] theorem setPhase_cfg (b : Bool) : (s.setPhase b).cfg = s.cfg := rfl
@[simp] theorem setPhase_rom (b : Bool) : (s.setPhase b).rom = s.rom := rfl
@[simp] theorem setPhase_state (b : Bool) : (s.setPhase b).state = s.state := rfl
@[simp] theorem setPhase_upc (b : Bool) : (s.setPhase b).upc = s.upc := rfl
@[simp] theorem setPhase_brdPh (b : Bool) : (s.setPhase b).brdPh = b := rfl
@[simp] theorem setPhase_xact (b : Bool) : (s.setPhase b).xact = s.xact := rfl
@[simp] theorem setPhase_tarmed (b : Bool) : (s.setPhase b).tarmed = s.tarmed := rfl
@[simp] theorem setPhase_tcnt (b : Bool) : (s.setPhase b).tcnt = s.tcnt := rfl
@[simp] theorem setPhase_staging (b : Bool) : (s.setPhase b).staging = s.staging := rfl
@[simp] theorem setPhase_committed (b : Bool) : (s.setPhase b).committed = s.committed := rfl
@[simp] theorem setPhase_valid (b : Bool) : (s.setPhase b).valid = s.valid := rfl
@[simp] theorem setPhase_lastErr (b : Bool) : (s.setPhase b).lastErr = s.lastErr := rfl
@[simp] theorem setPhase_cmdRej (b : Bool) : (s.setPhase b).cmdRej = s.cmdRej := rfl
@[simp] theorem setPhase_sel (b : Bool) : (s.setPhase b).sel = s.sel := rfl
@[simp] theorem setPhase_busOwn (b : Bool) : (s.setPhase b).busOwn = s.busOwn := rfl
@[simp] theorem setPhase_xresp (b : Bool) : (s.setPhase b).xresp = s.xresp := rfl
@[simp] theorem setPhase_rdata (b : Bool) : (s.setPhase b).rdata = s.rdata := rfl
@[simp] theorem setPhase_sched (b : Bool) : (s.setPhase b).sched = s.sched := rfl
@[simp] theorem setPhase_draws (b : Bool) : (s.setPhase b).draws = s.draws := rfl
@[simp] theorem setPhase_busy (b : Bool) : (s.setPhase b).busy = s.busy := rfl

/-! ### startProgram (R121, R122) -/

@[simp] theorem startProgram_cfg (st : BlockState) (entry : UAddr) : (s.startProgram st entry).cfg = s.cfg := rfl
@[simp] theorem startProgram_rom (st : BlockState) (entry : UAddr) : (s.startProgram st entry).rom = s.rom := rfl
@[simp] theorem startProgram_state (st : BlockState) (entry : UAddr) : (s.startProgram st entry).state = st := rfl
@[simp] theorem startProgram_upc (st : BlockState) (entry : UAddr) : (s.startProgram st entry).upc = entry := rfl
@[simp] theorem startProgram_brdPh (st : BlockState) (entry : UAddr) : (s.startProgram st entry).brdPh = false := rfl
@[simp] theorem startProgram_xact (st : BlockState) (entry : UAddr) : (s.startProgram st entry).xact = s.xact := rfl
@[simp] theorem startProgram_tarmed (st : BlockState) (entry : UAddr) : (s.startProgram st entry).tarmed = s.tarmed := rfl
@[simp] theorem startProgram_tcnt (st : BlockState) (entry : UAddr) : (s.startProgram st entry).tcnt = s.tcnt := rfl
@[simp] theorem startProgram_staging (st : BlockState) (entry : UAddr) : (s.startProgram st entry).staging = s.staging := rfl
@[simp] theorem startProgram_committed (st : BlockState) (entry : UAddr) : (s.startProgram st entry).committed = s.committed := rfl
@[simp] theorem startProgram_valid (st : BlockState) (entry : UAddr) : (s.startProgram st entry).valid = s.valid := rfl
@[simp] theorem startProgram_lastErr (st : BlockState) (entry : UAddr) : (s.startProgram st entry).lastErr = s.lastErr := rfl
@[simp] theorem startProgram_cmdRej (st : BlockState) (entry : UAddr) : (s.startProgram st entry).cmdRej = s.cmdRej := rfl
@[simp] theorem startProgram_sel (st : BlockState) (entry : UAddr) : (s.startProgram st entry).sel = s.sel := rfl
@[simp] theorem startProgram_busOwn (st : BlockState) (entry : UAddr) : (s.startProgram st entry).busOwn = s.busOwn := rfl
@[simp] theorem startProgram_xresp (st : BlockState) (entry : UAddr) : (s.startProgram st entry).xresp = s.xresp := rfl
@[simp] theorem startProgram_rdata (st : BlockState) (entry : UAddr) : (s.startProgram st entry).rdata = s.rdata := rfl
@[simp] theorem startProgram_sched (st : BlockState) (entry : UAddr) : (s.startProgram st entry).sched = s.sched := rfl
@[simp] theorem startProgram_draws (st : BlockState) (entry : UAddr) : (s.startProgram st entry).draws = s.draws := rfl
@[simp] theorem startProgram_busy (st : BlockState) (entry : UAddr) : (s.startProgram st entry).busy = BlockState.busy st := rfl

/-! ### abort (R163) -/

@[simp] theorem abort_cfg (code : ErrCode) : (s.abort code).cfg = s.cfg := rfl
@[simp] theorem abort_rom (code : ErrCode) : (s.abort code).rom = s.rom := rfl
@[simp] theorem abort_state (code : ErrCode) : (s.abort code).state = s.state := rfl
@[simp] theorem abort_upc (code : ErrCode) : (s.abort code).upc = s.abortTarget := rfl
@[simp] theorem abort_brdPh (code : ErrCode) : (s.abort code).brdPh = false := rfl
@[simp] theorem abort_xact (code : ErrCode) : (s.abort code).xact = s.xact := rfl
@[simp] theorem abort_tarmed (code : ErrCode) : (s.abort code).tarmed = s.tarmed := rfl
@[simp] theorem abort_tcnt (code : ErrCode) : (s.abort code).tcnt = s.tcnt := rfl
@[simp] theorem abort_staging (code : ErrCode) : (s.abort code).staging = s.staging := rfl
@[simp] theorem abort_committed (code : ErrCode) : (s.abort code).committed = s.committed := rfl
@[simp] theorem abort_valid (code : ErrCode) : (s.abort code).valid = s.valid := rfl
@[simp] theorem abort_lastErr (code : ErrCode) : (s.abort code).lastErr = code := rfl
@[simp] theorem abort_cmdRej (code : ErrCode) : (s.abort code).cmdRej = s.cmdRej := rfl
@[simp] theorem abort_sel (code : ErrCode) : (s.abort code).sel = s.sel := rfl
@[simp] theorem abort_busOwn (code : ErrCode) : (s.abort code).busOwn = s.busOwn := rfl
@[simp] theorem abort_xresp (code : ErrCode) : (s.abort code).xresp = s.xresp := rfl
@[simp] theorem abort_rdata (code : ErrCode) : (s.abort code).rdata = s.rdata := rfl
@[simp] theorem abort_sched (code : ErrCode) : (s.abort code).sched = s.sched := rfl
@[simp] theorem abort_draws (code : ErrCode) : (s.abort code).draws = s.draws := rfl
@[simp] theorem abort_busy (code : ErrCode) : (s.abort code).busy = s.busy := rfl

/-! ### endProgram (R188) -/

@[simp] theorem endProgram_cfg (st : BlockState) : (s.endProgram st).cfg = s.cfg := rfl
@[simp] theorem endProgram_rom (st : BlockState) : (s.endProgram st).rom = s.rom := rfl
@[simp] theorem endProgram_state (st : BlockState) : (s.endProgram st).state = st := rfl
@[simp] theorem endProgram_upc (st : BlockState) : (s.endProgram st).upc = 0 := rfl
@[simp] theorem endProgram_brdPh (st : BlockState) : (s.endProgram st).brdPh = s.brdPh := rfl
@[simp] theorem endProgram_xact (st : BlockState) : (s.endProgram st).xact = s.xact := rfl
@[simp] theorem endProgram_tarmed (st : BlockState) : (s.endProgram st).tarmed = s.tarmed := rfl
@[simp] theorem endProgram_tcnt (st : BlockState) : (s.endProgram st).tcnt = s.tcnt := rfl
@[simp] theorem endProgram_staging (st : BlockState) : (s.endProgram st).staging = s.staging := rfl
@[simp] theorem endProgram_committed (st : BlockState) : (s.endProgram st).committed = s.committed := rfl
@[simp] theorem endProgram_valid (st : BlockState) : (s.endProgram st).valid = s.valid := rfl
@[simp] theorem endProgram_lastErr (st : BlockState) : (s.endProgram st).lastErr = s.lastErr := rfl
@[simp] theorem endProgram_cmdRej (st : BlockState) : (s.endProgram st).cmdRej = s.cmdRej := rfl
@[simp] theorem endProgram_sel (st : BlockState) : (s.endProgram st).sel = s.sel := rfl
@[simp] theorem endProgram_busOwn (st : BlockState) : (s.endProgram st).busOwn = if st = .failed then false else s.busOwn := rfl
@[simp] theorem endProgram_xresp (st : BlockState) : (s.endProgram st).xresp = s.xresp := rfl
@[simp] theorem endProgram_rdata (st : BlockState) : (s.endProgram st).rdata = s.rdata := rfl
@[simp] theorem endProgram_sched (st : BlockState) : (s.endProgram st).sched = s.sched := rfl
@[simp] theorem endProgram_draws (st : BlockState) : (s.endProgram st).draws = s.draws := rfl
@[simp] theorem endProgram_busy (st : BlockState) : (s.endProgram st).busy = BlockState.busy st := rfl

/-! ### armTimer (R183) -/

@[simp] theorem armTimer_cfg (n : Nat) : (s.armTimer n).cfg = s.cfg := rfl
@[simp] theorem armTimer_rom (n : Nat) : (s.armTimer n).rom = s.rom := rfl
@[simp] theorem armTimer_state (n : Nat) : (s.armTimer n).state = s.state := rfl
@[simp] theorem armTimer_upc (n : Nat) : (s.armTimer n).upc = s.upc := rfl
@[simp] theorem armTimer_brdPh (n : Nat) : (s.armTimer n).brdPh = s.brdPh := rfl
@[simp] theorem armTimer_xact (n : Nat) : (s.armTimer n).xact = s.xact := rfl
@[simp] theorem armTimer_tarmed (n : Nat) : (s.armTimer n).tarmed = true := rfl
@[simp] theorem armTimer_tcnt (n : Nat) : (s.armTimer n).tcnt = n := rfl
@[simp] theorem armTimer_staging (n : Nat) : (s.armTimer n).staging = s.staging := rfl
@[simp] theorem armTimer_committed (n : Nat) : (s.armTimer n).committed = s.committed := rfl
@[simp] theorem armTimer_valid (n : Nat) : (s.armTimer n).valid = s.valid := rfl
@[simp] theorem armTimer_lastErr (n : Nat) : (s.armTimer n).lastErr = s.lastErr := rfl
@[simp] theorem armTimer_cmdRej (n : Nat) : (s.armTimer n).cmdRej = s.cmdRej := rfl
@[simp] theorem armTimer_sel (n : Nat) : (s.armTimer n).sel = s.sel := rfl
@[simp] theorem armTimer_busOwn (n : Nat) : (s.armTimer n).busOwn = s.busOwn := rfl
@[simp] theorem armTimer_xresp (n : Nat) : (s.armTimer n).xresp = s.xresp := rfl
@[simp] theorem armTimer_rdata (n : Nat) : (s.armTimer n).rdata = s.rdata := rfl
@[simp] theorem armTimer_sched (n : Nat) : (s.armTimer n).sched = s.sched := rfl
@[simp] theorem armTimer_draws (n : Nat) : (s.armTimer n).draws = s.draws := rfl
@[simp] theorem armTimer_busy (n : Nat) : (s.armTimer n).busy = s.busy := rfl

/-! ### disarmTimer (R185) -/

@[simp] theorem disarmTimer_cfg : (s.disarmTimer).cfg = s.cfg := rfl
@[simp] theorem disarmTimer_rom : (s.disarmTimer).rom = s.rom := rfl
@[simp] theorem disarmTimer_state : (s.disarmTimer).state = s.state := rfl
@[simp] theorem disarmTimer_upc : (s.disarmTimer).upc = s.upc := rfl
@[simp] theorem disarmTimer_brdPh : (s.disarmTimer).brdPh = s.brdPh := rfl
@[simp] theorem disarmTimer_xact : (s.disarmTimer).xact = s.xact := rfl
@[simp] theorem disarmTimer_tarmed : (s.disarmTimer).tarmed = false := rfl
@[simp] theorem disarmTimer_tcnt : (s.disarmTimer).tcnt = s.tcnt := rfl
@[simp] theorem disarmTimer_staging : (s.disarmTimer).staging = s.staging := rfl
@[simp] theorem disarmTimer_committed : (s.disarmTimer).committed = s.committed := rfl
@[simp] theorem disarmTimer_valid : (s.disarmTimer).valid = s.valid := rfl
@[simp] theorem disarmTimer_lastErr : (s.disarmTimer).lastErr = s.lastErr := rfl
@[simp] theorem disarmTimer_cmdRej : (s.disarmTimer).cmdRej = s.cmdRej := rfl
@[simp] theorem disarmTimer_sel : (s.disarmTimer).sel = s.sel := rfl
@[simp] theorem disarmTimer_busOwn : (s.disarmTimer).busOwn = s.busOwn := rfl
@[simp] theorem disarmTimer_xresp : (s.disarmTimer).xresp = s.xresp := rfl
@[simp] theorem disarmTimer_rdata : (s.disarmTimer).rdata = s.rdata := rfl
@[simp] theorem disarmTimer_sched : (s.disarmTimer).sched = s.sched := rfl
@[simp] theorem disarmTimer_draws : (s.disarmTimer).draws = s.draws := rfl
@[simp] theorem disarmTimer_busy : (s.disarmTimer).busy = s.busy := rfl

/-! ### tick (R184) -/

@[simp] theorem tick_cfg : (s.tick).cfg = s.cfg := rfl
@[simp] theorem tick_rom : (s.tick).rom = s.rom := rfl
@[simp] theorem tick_state : (s.tick).state = s.state := rfl
@[simp] theorem tick_upc : (s.tick).upc = s.upc := rfl
@[simp] theorem tick_brdPh : (s.tick).brdPh = s.brdPh := rfl
@[simp] theorem tick_xact : (s.tick).xact = s.xact := rfl
@[simp] theorem tick_tarmed : (s.tick).tarmed = s.tarmed := rfl
@[simp] theorem tick_tcnt : (s.tick).tcnt = if s.tarmed then s.tcnt - 1 else s.tcnt := rfl
@[simp] theorem tick_staging : (s.tick).staging = s.staging := rfl
@[simp] theorem tick_committed : (s.tick).committed = s.committed := rfl
@[simp] theorem tick_valid : (s.tick).valid = s.valid := rfl
@[simp] theorem tick_lastErr : (s.tick).lastErr = s.lastErr := rfl
@[simp] theorem tick_cmdRej : (s.tick).cmdRej = s.cmdRej := rfl
@[simp] theorem tick_sel : (s.tick).sel = s.sel := rfl
@[simp] theorem tick_busOwn : (s.tick).busOwn = s.busOwn := rfl
@[simp] theorem tick_xresp : (s.tick).xresp = s.xresp := rfl
@[simp] theorem tick_rdata : (s.tick).rdata = s.rdata := rfl
@[simp] theorem tick_sched : (s.tick).sched = s.sched := rfl
@[simp] theorem tick_draws : (s.tick).draws = s.draws := rfl
@[simp] theorem tick_busy : (s.tick).busy = s.busy := rfl

/-! ### stageValue (R160) -/

@[simp] theorem stageValue_cfg (slot : BitVec 2) (v : HData) : (s.stageValue slot v).cfg = s.cfg := rfl
@[simp] theorem stageValue_rom (slot : BitVec 2) (v : HData) : (s.stageValue slot v).rom = s.rom := rfl
@[simp] theorem stageValue_state (slot : BitVec 2) (v : HData) : (s.stageValue slot v).state = s.state := rfl
@[simp] theorem stageValue_upc (slot : BitVec 2) (v : HData) : (s.stageValue slot v).upc = s.upc := rfl
@[simp] theorem stageValue_brdPh (slot : BitVec 2) (v : HData) : (s.stageValue slot v).brdPh = s.brdPh := rfl
@[simp] theorem stageValue_xact (slot : BitVec 2) (v : HData) : (s.stageValue slot v).xact = s.xact := rfl
@[simp] theorem stageValue_tarmed (slot : BitVec 2) (v : HData) : (s.stageValue slot v).tarmed = s.tarmed := rfl
@[simp] theorem stageValue_tcnt (slot : BitVec 2) (v : HData) : (s.stageValue slot v).tcnt = s.tcnt := rfl
@[simp] theorem stageValue_committed (slot : BitVec 2) (v : HData) : (s.stageValue slot v).committed = s.committed := rfl
@[simp] theorem stageValue_valid (slot : BitVec 2) (v : HData) : (s.stageValue slot v).valid = s.valid := rfl
@[simp] theorem stageValue_lastErr (slot : BitVec 2) (v : HData) : (s.stageValue slot v).lastErr = s.lastErr := rfl
@[simp] theorem stageValue_cmdRej (slot : BitVec 2) (v : HData) : (s.stageValue slot v).cmdRej = s.cmdRej := rfl
@[simp] theorem stageValue_sel (slot : BitVec 2) (v : HData) : (s.stageValue slot v).sel = s.sel := rfl
@[simp] theorem stageValue_busOwn (slot : BitVec 2) (v : HData) : (s.stageValue slot v).busOwn = s.busOwn := rfl
@[simp] theorem stageValue_xresp (slot : BitVec 2) (v : HData) : (s.stageValue slot v).xresp = s.xresp := rfl
@[simp] theorem stageValue_rdata (slot : BitVec 2) (v : HData) : (s.stageValue slot v).rdata = s.rdata := rfl
@[simp] theorem stageValue_sched (slot : BitVec 2) (v : HData) : (s.stageValue slot v).sched = s.sched := rfl
@[simp] theorem stageValue_draws (slot : BitVec 2) (v : HData) : (s.stageValue slot v).draws = s.draws := rfl
@[simp] theorem stageValue_busy (slot : BitVec 2) (v : HData) : (s.stageValue slot v).busy = s.busy := rfl

/-! ### commitStaging (R212) -/

@[simp] theorem commitStaging_cfg : (s.commitStaging).cfg = s.cfg := rfl
@[simp] theorem commitStaging_rom : (s.commitStaging).rom = s.rom := rfl
@[simp] theorem commitStaging_state : (s.commitStaging).state = s.state := rfl
@[simp] theorem commitStaging_upc : (s.commitStaging).upc = s.upc := rfl
@[simp] theorem commitStaging_brdPh : (s.commitStaging).brdPh = s.brdPh := rfl
@[simp] theorem commitStaging_xact : (s.commitStaging).xact = s.xact := rfl
@[simp] theorem commitStaging_tarmed : (s.commitStaging).tarmed = s.tarmed := rfl
@[simp] theorem commitStaging_tcnt : (s.commitStaging).tcnt = s.tcnt := rfl
@[simp] theorem commitStaging_staging : (s.commitStaging).staging = s.staging := rfl
@[simp] theorem commitStaging_committed : (s.commitStaging).committed = s.staging := rfl
@[simp] theorem commitStaging_valid : (s.commitStaging).valid = true := rfl
@[simp] theorem commitStaging_lastErr : (s.commitStaging).lastErr = s.lastErr := rfl
@[simp] theorem commitStaging_cmdRej : (s.commitStaging).cmdRej = s.cmdRej := rfl
@[simp] theorem commitStaging_sel : (s.commitStaging).sel = s.sel := rfl
@[simp] theorem commitStaging_busOwn : (s.commitStaging).busOwn = s.busOwn := rfl
@[simp] theorem commitStaging_xresp : (s.commitStaging).xresp = s.xresp := rfl
@[simp] theorem commitStaging_rdata : (s.commitStaging).rdata = s.rdata := rfl
@[simp] theorem commitStaging_sched : (s.commitStaging).sched = s.sched := rfl
@[simp] theorem commitStaging_draws : (s.commitStaging).draws = s.draws := rfl
@[simp] theorem commitStaging_busy : (s.commitStaging).busy = s.busy := rfl

/-! ### setRdata (R9) -/

@[simp] theorem setRdata_cfg (v : Option HData) : (s.setRdata v).cfg = s.cfg := rfl
@[simp] theorem setRdata_rom (v : Option HData) : (s.setRdata v).rom = s.rom := rfl
@[simp] theorem setRdata_state (v : Option HData) : (s.setRdata v).state = s.state := rfl
@[simp] theorem setRdata_upc (v : Option HData) : (s.setRdata v).upc = s.upc := rfl
@[simp] theorem setRdata_brdPh (v : Option HData) : (s.setRdata v).brdPh = s.brdPh := rfl
@[simp] theorem setRdata_xact (v : Option HData) : (s.setRdata v).xact = s.xact := rfl
@[simp] theorem setRdata_tarmed (v : Option HData) : (s.setRdata v).tarmed = s.tarmed := rfl
@[simp] theorem setRdata_tcnt (v : Option HData) : (s.setRdata v).tcnt = s.tcnt := rfl
@[simp] theorem setRdata_staging (v : Option HData) : (s.setRdata v).staging = s.staging := rfl
@[simp] theorem setRdata_committed (v : Option HData) : (s.setRdata v).committed = s.committed := rfl
@[simp] theorem setRdata_valid (v : Option HData) : (s.setRdata v).valid = s.valid := rfl
@[simp] theorem setRdata_lastErr (v : Option HData) : (s.setRdata v).lastErr = s.lastErr := rfl
@[simp] theorem setRdata_cmdRej (v : Option HData) : (s.setRdata v).cmdRej = s.cmdRej := rfl
@[simp] theorem setRdata_sel (v : Option HData) : (s.setRdata v).sel = s.sel := rfl
@[simp] theorem setRdata_busOwn (v : Option HData) : (s.setRdata v).busOwn = s.busOwn := rfl
@[simp] theorem setRdata_xresp (v : Option HData) : (s.setRdata v).xresp = s.xresp := rfl
@[simp] theorem setRdata_rdata (v : Option HData) : (s.setRdata v).rdata = v := rfl
@[simp] theorem setRdata_sched (v : Option HData) : (s.setRdata v).sched = s.sched := rfl
@[simp] theorem setRdata_draws (v : Option HData) : (s.setRdata v).draws = s.draws := rfl
@[simp] theorem setRdata_busy (v : Option HData) : (s.setRdata v).busy = s.busy := rfl

/-! ### setSel (R128) -/

@[simp] theorem setSel_cfg (c : BitVec 2) : (s.setSel c).cfg = s.cfg := rfl
@[simp] theorem setSel_rom (c : BitVec 2) : (s.setSel c).rom = s.rom := rfl
@[simp] theorem setSel_state (c : BitVec 2) : (s.setSel c).state = s.state := rfl
@[simp] theorem setSel_upc (c : BitVec 2) : (s.setSel c).upc = s.upc := rfl
@[simp] theorem setSel_brdPh (c : BitVec 2) : (s.setSel c).brdPh = s.brdPh := rfl
@[simp] theorem setSel_xact (c : BitVec 2) : (s.setSel c).xact = s.xact := rfl
@[simp] theorem setSel_tarmed (c : BitVec 2) : (s.setSel c).tarmed = s.tarmed := rfl
@[simp] theorem setSel_tcnt (c : BitVec 2) : (s.setSel c).tcnt = s.tcnt := rfl
@[simp] theorem setSel_staging (c : BitVec 2) : (s.setSel c).staging = s.staging := rfl
@[simp] theorem setSel_committed (c : BitVec 2) : (s.setSel c).committed = s.committed := rfl
@[simp] theorem setSel_valid (c : BitVec 2) : (s.setSel c).valid = s.valid := rfl
@[simp] theorem setSel_lastErr (c : BitVec 2) : (s.setSel c).lastErr = s.lastErr := rfl
@[simp] theorem setSel_cmdRej (c : BitVec 2) : (s.setSel c).cmdRej = s.cmdRej := rfl
@[simp] theorem setSel_sel (c : BitVec 2) : (s.setSel c).sel = c := rfl
@[simp] theorem setSel_busOwn (c : BitVec 2) : (s.setSel c).busOwn = s.busOwn := rfl
@[simp] theorem setSel_xresp (c : BitVec 2) : (s.setSel c).xresp = s.xresp := rfl
@[simp] theorem setSel_rdata (c : BitVec 2) : (s.setSel c).rdata = s.rdata := rfl
@[simp] theorem setSel_sched (c : BitVec 2) : (s.setSel c).sched = s.sched := rfl
@[simp] theorem setSel_draws (c : BitVec 2) : (s.setSel c).draws = s.draws := rfl
@[simp] theorem setSel_busy (c : BitVec 2) : (s.setSel c).busy = s.busy := rfl

/-! ### setBusOwn (R42) -/

@[simp] theorem setBusOwn_cfg (b : Bool) : (s.setBusOwn b).cfg = s.cfg := rfl
@[simp] theorem setBusOwn_rom (b : Bool) : (s.setBusOwn b).rom = s.rom := rfl
@[simp] theorem setBusOwn_state (b : Bool) : (s.setBusOwn b).state = s.state := rfl
@[simp] theorem setBusOwn_upc (b : Bool) : (s.setBusOwn b).upc = s.upc := rfl
@[simp] theorem setBusOwn_brdPh (b : Bool) : (s.setBusOwn b).brdPh = s.brdPh := rfl
@[simp] theorem setBusOwn_xact (b : Bool) : (s.setBusOwn b).xact = s.xact := rfl
@[simp] theorem setBusOwn_tarmed (b : Bool) : (s.setBusOwn b).tarmed = s.tarmed := rfl
@[simp] theorem setBusOwn_tcnt (b : Bool) : (s.setBusOwn b).tcnt = s.tcnt := rfl
@[simp] theorem setBusOwn_staging (b : Bool) : (s.setBusOwn b).staging = s.staging := rfl
@[simp] theorem setBusOwn_committed (b : Bool) : (s.setBusOwn b).committed = s.committed := rfl
@[simp] theorem setBusOwn_valid (b : Bool) : (s.setBusOwn b).valid = s.valid := rfl
@[simp] theorem setBusOwn_lastErr (b : Bool) : (s.setBusOwn b).lastErr = s.lastErr := rfl
@[simp] theorem setBusOwn_cmdRej (b : Bool) : (s.setBusOwn b).cmdRej = s.cmdRej := rfl
@[simp] theorem setBusOwn_sel (b : Bool) : (s.setBusOwn b).sel = s.sel := rfl
@[simp] theorem setBusOwn_busOwn (b : Bool) : (s.setBusOwn b).busOwn = b := rfl
@[simp] theorem setBusOwn_xresp (b : Bool) : (s.setBusOwn b).xresp = s.xresp := rfl
@[simp] theorem setBusOwn_rdata (b : Bool) : (s.setBusOwn b).rdata = s.rdata := rfl
@[simp] theorem setBusOwn_sched (b : Bool) : (s.setBusOwn b).sched = s.sched := rfl
@[simp] theorem setBusOwn_draws (b : Bool) : (s.setBusOwn b).draws = s.draws := rfl
@[simp] theorem setBusOwn_busy (b : Bool) : (s.setBusOwn b).busy = s.busy := rfl

/-! ### close (R123) -/

@[simp] theorem close_cfg : (s.close).cfg = s.cfg := rfl
@[simp] theorem close_rom : (s.close).rom = s.rom := rfl
@[simp] theorem close_state : (s.close).state = .closed := rfl
@[simp] theorem close_upc : (s.close).upc = s.upc := rfl
@[simp] theorem close_brdPh : (s.close).brdPh = s.brdPh := rfl
@[simp] theorem close_xact : (s.close).xact = s.xact := rfl
@[simp] theorem close_tarmed : (s.close).tarmed = s.tarmed := rfl
@[simp] theorem close_tcnt : (s.close).tcnt = s.tcnt := rfl
@[simp] theorem close_staging : (s.close).staging = s.staging := rfl
@[simp] theorem close_committed : (s.close).committed = s.committed := rfl
@[simp] theorem close_valid : (s.close).valid = s.valid := rfl
@[simp] theorem close_lastErr : (s.close).lastErr = s.lastErr := rfl
@[simp] theorem close_cmdRej : (s.close).cmdRej = s.cmdRej := rfl
@[simp] theorem close_sel : (s.close).sel = s.sel := rfl
@[simp] theorem close_busOwn : (s.close).busOwn = s.busOwn := rfl
@[simp] theorem close_xresp : (s.close).xresp = s.xresp := rfl
@[simp] theorem close_rdata : (s.close).rdata = s.rdata := rfl
@[simp] theorem close_sched : (s.close).sched = s.sched := rfl
@[simp] theorem close_draws : (s.close).draws = s.draws := rfl
@[simp] theorem close_busy : (s.close).busy = BlockState.busy .closed := rfl

/-! ### clearFlags (R39, R40) -/

@[simp] theorem clearFlags_cfg : (s.clearFlags).cfg = s.cfg := rfl
@[simp] theorem clearFlags_rom : (s.clearFlags).rom = s.rom := rfl
@[simp] theorem clearFlags_state : (s.clearFlags).state = s.state := rfl
@[simp] theorem clearFlags_upc : (s.clearFlags).upc = s.upc := rfl
@[simp] theorem clearFlags_brdPh : (s.clearFlags).brdPh = s.brdPh := rfl
@[simp] theorem clearFlags_xact : (s.clearFlags).xact = s.xact := rfl
@[simp] theorem clearFlags_tarmed : (s.clearFlags).tarmed = s.tarmed := rfl
@[simp] theorem clearFlags_tcnt : (s.clearFlags).tcnt = s.tcnt := rfl
@[simp] theorem clearFlags_staging : (s.clearFlags).staging = s.staging := rfl
@[simp] theorem clearFlags_committed : (s.clearFlags).committed = s.committed := rfl
@[simp] theorem clearFlags_valid : (s.clearFlags).valid = s.valid := rfl
@[simp] theorem clearFlags_lastErr : (s.clearFlags).lastErr = .noError := rfl
@[simp] theorem clearFlags_cmdRej : (s.clearFlags).cmdRej = false := rfl
@[simp] theorem clearFlags_sel : (s.clearFlags).sel = s.sel := rfl
@[simp] theorem clearFlags_busOwn : (s.clearFlags).busOwn = s.busOwn := rfl
@[simp] theorem clearFlags_xresp : (s.clearFlags).xresp = s.xresp := rfl
@[simp] theorem clearFlags_rdata : (s.clearFlags).rdata = s.rdata := rfl
@[simp] theorem clearFlags_sched : (s.clearFlags).sched = s.sched := rfl
@[simp] theorem clearFlags_draws : (s.clearFlags).draws = s.draws := rfl
@[simp] theorem clearFlags_busy : (s.clearFlags).busy = s.busy := rfl

/-! ### reject (R242) -/

@[simp] theorem reject_cfg : (s.reject).cfg = s.cfg := rfl
@[simp] theorem reject_rom : (s.reject).rom = s.rom := rfl
@[simp] theorem reject_state : (s.reject).state = s.state := rfl
@[simp] theorem reject_upc : (s.reject).upc = s.upc := rfl
@[simp] theorem reject_brdPh : (s.reject).brdPh = s.brdPh := rfl
@[simp] theorem reject_xact : (s.reject).xact = s.xact := rfl
@[simp] theorem reject_tarmed : (s.reject).tarmed = s.tarmed := rfl
@[simp] theorem reject_tcnt : (s.reject).tcnt = s.tcnt := rfl
@[simp] theorem reject_staging : (s.reject).staging = s.staging := rfl
@[simp] theorem reject_committed : (s.reject).committed = s.committed := rfl
@[simp] theorem reject_valid : (s.reject).valid = s.valid := rfl
@[simp] theorem reject_lastErr : (s.reject).lastErr = s.lastErr := rfl
@[simp] theorem reject_cmdRej : (s.reject).cmdRej = true := rfl
@[simp] theorem reject_sel : (s.reject).sel = s.sel := rfl
@[simp] theorem reject_busOwn : (s.reject).busOwn = s.busOwn := rfl
@[simp] theorem reject_xresp : (s.reject).xresp = s.xresp := rfl
@[simp] theorem reject_rdata : (s.reject).rdata = s.rdata := rfl
@[simp] theorem reject_sched : (s.reject).sched = s.sched := rfl
@[simp] theorem reject_draws : (s.reject).draws = s.draws := rfl
@[simp] theorem reject_busy : (s.reject).busy = s.busy := rfl

/-! ### stageValue writes one slot (R160) -/

@[simp] theorem stageValue_slot0 (v : HData) :
    (s.stageValue 0 v).staging = { s.staging with vbus := v } := rfl
@[simp] theorem stageValue_slot1 (v : HData) :
    (s.stageValue 1 v).staging = { s.staging with vsense := v } := rfl
@[simp] theorem stageValue_slot2 (v : HData) :
    (s.stageValue 2 v).staging = { s.staging with vpower := v } := rfl
@[simp] theorem stageValue_slot3 (v : HData) :
    (s.stageValue 3 v).staging = { s.staging with ovf := v.extractLsb' 0 8 } := rfl

/-! ### resetBlock (R270) -/

@[simp] theorem resetBlock_cfg : s.resetBlock.cfg = s.cfg := rfl
@[simp] theorem resetBlock_rom : s.resetBlock.rom = s.rom := rfl
@[simp] theorem resetBlock_state : s.resetBlock.state = .uninit := rfl
@[simp] theorem resetBlock_upc : s.resetBlock.upc = 0 := rfl
@[simp] theorem resetBlock_brdPh : s.resetBlock.brdPh = false := rfl
@[simp] theorem resetBlock_xact : s.resetBlock.xact = .idle := rfl
@[simp] theorem resetBlock_tarmed : s.resetBlock.tarmed = false := rfl
@[simp] theorem resetBlock_tcnt : s.resetBlock.tcnt = 0 := rfl
@[simp] theorem resetBlock_staging : s.resetBlock.staging = Bank.zero := rfl
@[simp] theorem resetBlock_committed : s.resetBlock.committed = Bank.zero := rfl
@[simp] theorem resetBlock_valid : s.resetBlock.valid = false := rfl
@[simp] theorem resetBlock_lastErr : s.resetBlock.lastErr = .noError := rfl
@[simp] theorem resetBlock_cmdRej : s.resetBlock.cmdRej = false := rfl
@[simp] theorem resetBlock_sel : s.resetBlock.sel = 0 := rfl
@[simp] theorem resetBlock_busOwn : s.resetBlock.busOwn = false := rfl
@[simp] theorem resetBlock_xresp : s.resetBlock.xresp = none := rfl
@[simp] theorem resetBlock_rdata : s.resetBlock.rdata = none := rfl
@[simp] theorem resetBlock_sched : s.resetBlock.sched = s.sched := rfl
@[simp] theorem resetBlock_draws : s.resetBlock.draws = s.draws := rfl
@[simp] theorem resetBlock_busy : s.resetBlock.busy = false := rfl

/-! ### takeEvent (R8): only the tape, the draw counter and the read data port -/

@[simp] theorem takeEvent_cfg : s.takeEvent.cfg = s.cfg := by unfold takeEvent; split <;> rfl
@[simp] theorem takeEvent_rom : s.takeEvent.rom = s.rom := by unfold takeEvent; split <;> rfl
@[simp] theorem takeEvent_state : s.takeEvent.state = s.state := by unfold takeEvent; split <;> rfl
@[simp] theorem takeEvent_upc : s.takeEvent.upc = s.upc := by unfold takeEvent; split <;> rfl
@[simp] theorem takeEvent_brdPh : s.takeEvent.brdPh = s.brdPh := by unfold takeEvent; split <;> rfl
@[simp] theorem takeEvent_xact : s.takeEvent.xact = s.xact := by unfold takeEvent; split <;> rfl
@[simp] theorem takeEvent_tarmed : s.takeEvent.tarmed = s.tarmed := by unfold takeEvent; split <;> rfl
@[simp] theorem takeEvent_tcnt : s.takeEvent.tcnt = s.tcnt := by unfold takeEvent; split <;> rfl
@[simp] theorem takeEvent_staging : s.takeEvent.staging = s.staging := by unfold takeEvent; split <;> rfl
@[simp] theorem takeEvent_committed : s.takeEvent.committed = s.committed := by unfold takeEvent; split <;> rfl
@[simp] theorem takeEvent_valid : s.takeEvent.valid = s.valid := by unfold takeEvent; split <;> rfl
@[simp] theorem takeEvent_lastErr : s.takeEvent.lastErr = s.lastErr := by unfold takeEvent; split <;> rfl
@[simp] theorem takeEvent_cmdRej : s.takeEvent.cmdRej = s.cmdRej := by unfold takeEvent; split <;> rfl
@[simp] theorem takeEvent_sel : s.takeEvent.sel = s.sel := by unfold takeEvent; split <;> rfl
@[simp] theorem takeEvent_busOwn : s.takeEvent.busOwn = s.busOwn := by unfold takeEvent; split <;> rfl
@[simp] theorem takeEvent_xresp : s.takeEvent.xresp = s.xresp := by unfold takeEvent; split <;> rfl
@[simp] theorem takeEvent_rdata : s.takeEvent.rdata = none := by unfold takeEvent; split <;> rfl
@[simp] theorem takeEvent_busy : s.takeEvent.busy = s.busy := by simp [busy]

/-- A tape that is not used up loses its first event. -/
theorem takeEvent_cons (e : Event) (rest : List Event) (h : s.sched = e :: rest) :
    s.takeEvent = { s with sched := rest, rdata := none } := by
  unfold takeEvent; rw [h]

theorem nextEvent_cons (e : Event) (rest : List Event) (h : s.sched = e :: rest) : s.nextEvent = e := by
  unfold nextEvent; rw [h]

/-- Past the tape's end the event is a free draw (log 2). -/
theorem nextEvent_nil (h : s.sched = []) : s.nextEvent = Config.freeEvent s.draws := by
  unfold nextEvent; rw [h]

end Sys2Proof.Machine.State
end

