-- ==== Sys2Proof/Laws/Ops.lean ====
section
/-! SUPPORT. For each shared operation one lemma that says everything it can do, the fetch of every ROM address, and what
`Config.wf` demands. -/

namespace Sys2Proof

/-- The width and depth parameters of a well-formed instance give exactly the types the model is written with (R10, R12). -/
theorem Config.wf_types {c : Config} (h : c.wf = true) :
    BitVec c.haddrW = HAddr ∧ BitVec c.hdataW = HData ∧ BitVec c.upcW = UAddr ∧ BitVec c.uwordW = UWord ∧
    Vector (BitVec c.uwordW) c.romDepth = Machine.Rom ∧ BitVec (1 + c.haddrW + c.hdataW) = HWord := by
  simp only [wf, fixedSizes, Bool.and_eq_true, beq_iff_eq] at h
  obtain ⟨⟨⟨⟨⟨⟨⟨ha, hd⟩, hu⟩, hr⟩, hw⟩, -⟩, -⟩, -⟩ := h
  simp [ha, hd, hu, hr, hw]

/-- R10's demand on TIMER_W. -/
theorem Config.wf_timer {c : Config} (h : c.wf = true) : max c.nSettle c.nInteg < 2 ^ c.timerW := by
  simp only [wf, Bool.and_eq_true, decide_eq_true_eq] at h
  exact h.1.1.2

/-- The lengths R150 allows a read. -/
theorem Config.wf_lengths {c : Config} (h : c.wf = true) :
    (1 ≤ c.lenChannel ∧ c.lenChannel ≤ 2) ∧ 1 ≤ c.lenOvf ∧ c.lenOvf ≤ 2 := by
  simp only [wf, Bool.and_eq_true, decide_eq_true_eq] at h
  exact ⟨h.1.2, h.2⟩

end Sys2Proof

namespace Sys2Proof.Machine

/-- Everything a sequenced micro-operation can do (R151, R152, R165). -/
theorem sequenced_cases {s : State} {own : Result} {consume : Response → State → Result} {x : Result}
    (h : sequenced s own consume = x) :
    (s.xact = .idle ∧ s.xresp = none ∧ x = own) ∨
    (s.xact = .idle ∧ s.xresp ≠ none ∧ x = .next s.discardResponse) ∨
    ((∃ r, s.xact = .out r) ∧ s.xresp = none ∧ x = .next s) ∨
    (∃ r p, s.xact = .out r ∧ s.xresp = some p ∧ x = consume p s.takeResponse) := by
  unfold sequenced at h
  split at h <;> simp_all

@[simp] theorem sequenced_own {s : State} {own : Result} {consume : Response → State → Result}
    (hx : s.xact = .idle) (hr : s.xresp = none) : sequenced s own consume = own := by
  simp [sequenced, hx, hr]

@[simp] theorem sequenced_blocked {s : State} {own : Result} {consume : Response → State → Result} {r : Request}
    (hx : s.xact = .out r) (hr : s.xresp = none) : sequenced s own consume = .next s := by
  simp [sequenced, hx, hr]

@[simp] theorem sequenced_response {s : State} {own : Result} {consume : Response → State → Result} {r : Request}
    {p : Response} (hx : s.xact = .out r) (hr : s.xresp = some p) :
    sequenced s own consume = consume p s.takeResponse := by
  simp [sequenced, hx, hr]

/-- A CMD write always completes: it is accepted or it sets CMD_REJ (R242). -/
theorem command_next (s : State) (acc : Bool) (act : State → State) :
    command s acc act = .next (if acc then (act s).clearFlags.setRdata none else s.reject.setRdata none) := by
  cases acc <;> rfl

/-- Where an abort goes (R163). -/
theorem abortTarget_busy (s : State) (h : s.busy = true) :
    (s.state = .measuring ∧ s.abortTarget = mAbort) ∨ (s.state = .initializing ∧ s.abortTarget = iAbort) := by
  unfold State.busy BlockState.busy at h
  unfold State.abortTarget
  cases hs : s.state <;> simp_all

/-- XPORT's response is of the request's kind (R151). -/
theorem responseTo_write (d : DevAddr) (bs : List Byte) (a : Answer) :
    responseTo (.write d bs) a = if a.ok then .wOk else .wErr := rfl

theorem responseTo_read (d : DevAddr) (n : Nat) (a : Answer) :
    responseTo (.read d n) a = if a.ok then .rOk a.bytes else .rErr := rfl

/-- `combine(b0, b1) = b0 * 256 + b1` on the numbers (R210). -/
theorem combine_append (b0 b1 : Byte) : combine b0 b1 = b0 ++ b1 := by
  unfold combine
  apply BitVec.eq_of_getLsbD_eq
  intro i hi
  simp only [BitVec.getLsbD_or, BitVec.getLsbD_shiftLeft, BitVec.getLsbD_setWidth, BitVec.getLsbD_append]
  interval_cases i <;> simp

/-- Only the fetched word and UPC decide what SEQ executes. -/
theorem fetched_congr {s t : State} (hr : s.rom = t.rom) (hu : s.upc = t.upc) : fetched s = fetched t := by
  unfold fetched; rw [hr, hu]

end Sys2Proof.Machine
end

