-- ==== Sys2Proof/Laws/PerInstr.lean ====
section
/-! SUPPORT. Laws made per instruction. TableRow: the encoding of a well-formed instruction has the bits that a row of
spec/opcode_table.json fixes for its mnemonic. -/

namespace Sys2Proof.Laws

def TableRow.Statement (i : Instr) : Prop :=
  i.wellFormed = true → ∃ r ∈ i.rows, r.covers (encode i) = true

/-- A host access word against a row, from the bits of its fields. -/
theorem host_covers (r : OpcodeRow) (w : Bool) (a : HAddr) (d : HData)
    (h : ((BitVec.ofBool w ++ a ++ d).zeroExtend 24 : BitVec 24) &&& r.mask = r.bits) :
    r.covers (.host (hostWord w a d)) = true := by
  simpa [OpcodeRow.covers, CodeWord.bits, hostWord] using h

theorem rom_covers (r : OpcodeRow) (w : UWord) (h : w &&& r.mask = r.bits) : r.covers (.rom w) = true := by
  simpa [OpcodeRow.covers, CodeWord.bits] using h

/-- The offset and the W bit of a host access word, where a row fixes nothing of D. -/
theorem host_offset_covers (w : Bool) (a : HAddr) (d : HData) (m : BitVec (1 + 4)) :
    (((BitVec.ofBool w ++ a ++ d).zeroExtend 24 : BitVec 24) &&& (m ++ 0#16).zeroExtend 24)
      = (((BitVec.ofBool w ++ a) &&& m) ++ 0#16).zeroExtend 24 := by
  apply BitVec.eq_of_getLsbD_eq; intro i hi
  simp only [BitVec.getLsbD_and, BitVec.getLsbD_setWidth, BitVec.getLsbD_append]
  interval_cases i <;> simp

/-- A command word: W, the offset and D[7:0]. -/
theorem command_covers (w : Bool) (a : HAddr) (hi lo : Byte) :
    (((BitVec.ofBool w ++ a ++ (hi ++ lo)).zeroExtend 24 : BitVec 24) &&& 0x1F00FF)
      = (BitVec.ofBool w ++ a ++ (0#8 ++ lo)).zeroExtend 24 := by
  apply BitVec.eq_of_getLsbD_eq; intro i hi
  simp only [BitVec.getLsbD_and, BitVec.getLsbD_setWidth, BitVec.getLsbD_append]
  interval_cases i <;> simp

/-- A microword: UOP and bit 17. -/
theorem microword_covers (u : BitVec 4) (b : Bool) (f : UFields) :
    microword u b f &&& 0xF20000 = microword u b ⟨0, 0, 0, 0⟩ := by
  apply BitVec.eq_of_getLsbD_eq; intro i hi
  simp only [microword, BitVec.getLsbD_and, BitVec.getLsbD_append]
  interval_cases i <;> simp

theorem microword_covers_b17 (u : BitVec 4) (f : UFields) : microword u true f &&& 0x020000 = 0x020000 := by
  apply BitVec.eq_of_getLsbD_eq; intro i hi
  simp only [microword, BitVec.getLsbD_and, BitVec.getLsbD_append]
  interval_cases i <;> simp

/-- A reserved UOP's upper four bits. -/
theorem rsvd_covers (u : BitVec 4) (body : BitVec 20) (m : BitVec 4) :
    (u ++ body) &&& (m ++ 0#20) = (u &&& m) ++ 0#20 := by
  apply BitVec.eq_of_getLsbD_eq; intro i hi
  simp only [BitVec.getLsbD_and, BitVec.getLsbD_append]
  interval_cases i <;> simp

namespace TableRow

theorem hwCmdInit (ign : Byte) : Statement (.hwCmdInit ign) := fun _ =>
  ⟨_, List.mem_singleton.mpr rfl, host_covers _ _ _ _ (command_covers true 0 ign 1)⟩

theorem hwCmdMeasure (ign : Byte) : Statement (.hwCmdMeasure ign) := fun _ =>
  ⟨_, List.mem_singleton.mpr rfl, host_covers _ _ _ _ (command_covers true 0 ign 2)⟩

theorem hwCmdRelease (ign : Byte) : Statement (.hwCmdRelease ign) := fun _ =>
  ⟨_, List.mem_singleton.mpr rfl, host_covers _ _ _ _ (command_covers true 0 ign 3)⟩

theorem hwCmdOther (d : HData) : Statement (.hwCmdOther d) := fun _ =>
  ⟨_, List.mem_singleton.mpr rfl, host_covers _ _ _ _ (host_offset_covers true 0 d 0x1F)⟩

theorem hrCmd (d : HData) : Statement (.hrCmd d) := fun _ =>
  ⟨_, List.mem_singleton.mpr rfl, host_covers _ _ _ _ (host_offset_covers false 0 d 0x1F)⟩

theorem hrStatus (d : HData) : Statement (.hrStatus d) := fun _ =>
  ⟨_, List.mem_singleton.mpr rfl, host_covers _ _ _ _ (host_offset_covers false 1 d 0x1F)⟩

theorem hwStatus (d : HData) : Statement (.hwStatus d) := fun _ =>
  ⟨_, List.mem_singleton.mpr rfl, host_covers _ _ _ _ (host_offset_covers true 1 d 0x1F)⟩

theorem hwSel (d : HData) : Statement (.hwSel d) := fun _ =>
  ⟨_, List.mem_singleton.mpr rfl, host_covers _ _ _ _ (host_offset_covers true 2 d 0x1F)⟩

theorem hrSel (d : HData) : Statement (.hrSel d) := fun _ =>
  ⟨_, List.mem_singleton.mpr rfl, host_covers _ _ _ _ (host_offset_covers false 2 d 0x1F)⟩

theorem hrSample (d : HData) : Statement (.hrSample d) := fun _ =>
  ⟨_, List.mem_singleton.mpr rfl, host_covers _ _ _ _ (host_offset_covers false 3 d 0x1F)⟩

theorem hwSample (d : HData) : Statement (.hwSample d) := fun _ =>
  ⟨_, List.mem_singleton.mpr rfl, host_covers _ _ _ _ (host_offset_covers true 3 d 0x1F)⟩

/-- The two masks the table gives the reserved offsets: 0x4 to 0x7 and 0x8 to 0xF. -/
theorem reserved_offset (w : Bool) (a : HAddr) (h : isReservedOffset a = true) :
    (BitVec.ofBool w ++ a) &&& 0x1C = BitVec.ofBool w ++ 4#4 ∨ (BitVec.ofBool w ++ a) &&& 0x18 = BitVec.ofBool w ++ 8#4 := by
  revert w a; decide

theorem hrRsvd (a : HAddr) (d : HData) : Statement (.hrRsvd a d) := by
  intro h
  rcases reserved_offset false a h with h | h
  · exact ⟨⟨0x1C0000, 0x040000⟩, by simp [Instr.rows], host_covers _ _ _ _ ((host_offset_covers false a d 0x1C).trans (by rw [h]; rfl))⟩
  · exact ⟨⟨0x180000, 0x080000⟩, by simp [Instr.rows], host_covers _ _ _ _ ((host_offset_covers false a d 0x18).trans (by rw [h]; rfl))⟩

theorem hwRsvd (a : HAddr) (d : HData) : Statement (.hwRsvd a d) := by
  intro h
  rcases reserved_offset true a h with h | h
  · exact ⟨⟨0x1C0000, 0x140000⟩, by simp [Instr.rows], host_covers _ _ _ _ ((host_offset_covers true a d 0x1C).trans (by rw [h]; rfl))⟩
  · exact ⟨⟨0x180000, 0x180000⟩, by simp [Instr.rows], host_covers _ _ _ _ ((host_offset_covers true a d 0x18).trans (by rw [h]; rfl))⟩

theorem uopEnd (f : UFields) : Statement (.uopEnd f) := fun _ =>
  ⟨_, List.mem_singleton.mpr rfl, rom_covers _ _ (microword_covers 0 false f)⟩

theorem uopBwr (f : UFields) : Statement (.uopBwr f) := fun _ =>
  ⟨_, List.mem_singleton.mpr rfl, rom_covers _ _ (microword_covers 1 false f)⟩

theorem uopBrd (f : UFields) : Statement (.uopBrd f) := fun _ =>
  ⟨_, List.mem_singleton.mpr rfl, rom_covers _ _ (microword_covers 2 false f)⟩

theorem uopWait (f : UFields) : Statement (.uopWait f) := fun _ =>
  ⟨_, List.mem_singleton.mpr rfl, rom_covers _ _ (microword_covers 3 false f)⟩

theorem uopCommit (f : UFields) : Statement (.uopCommit f) := fun _ =>
  ⟨_, List.mem_singleton.mpr rfl, rom_covers _ _ (microword_covers 4 false f)⟩

/-- The three masks the table gives the reserved UOP codes: 5, 6 to 7, 8 to 15. -/
theorem reserved_uop (u : BitVec 4) (h : isReservedUop u = true) : u &&& 0xF = 5 ∨ u &&& 0xE = 6 ∨ u &&& 0x8 = 8 := by
  revert u; decide

theorem rsvdUop (u : BitVec 4) (body : BitVec 20) : Statement (.rsvdUop u body) := by
  intro h
  rcases reserved_uop u h with h | h | h
  · exact ⟨⟨0xF00000, 0x500000⟩, by simp [Instr.rows], rom_covers _ _ ((rsvd_covers u body 0xF).trans (by rw [h]; rfl))⟩
  · exact ⟨⟨0xE00000, 0x600000⟩, by simp [Instr.rows], rom_covers _ _ ((rsvd_covers u body 0xE).trans (by rw [h]; rfl))⟩
  · exact ⟨⟨0x800000, 0x800000⟩, by simp [Instr.rows], rom_covers _ _ ((rsvd_covers u body 0x8).trans (by rw [h]; rfl))⟩

theorem rsvdB17 (u : BitVec 4) (f : UFields) : Statement (.rsvdB17 u f) := fun _ =>
  ⟨_, List.mem_singleton.mpr rfl, rom_covers _ _ (microword_covers_b17 u f)⟩

end TableRow

end Sys2Proof.Laws
end

