-- ==== Sys2Proof/Laws/Step.lean ====
section
/-! SUPPORT. What a step does, by its event, and what a built instance fetches: the lemmas later proofs cite instead of
unfolding `step`. -/

namespace Sys2Proof.Machine

/-- Every step that goes on, by the agent that takes it (R7). -/
theorem step_cases {s t : State} (h : step s = .next t) :
    (∃ w, s.nextEvent = .host w ∧ hostStep w s.takeEvent = .next t) ∨
    (s.nextEvent = .seq ∧ seqStep s.takeEvent = .next t) ∨
    (∃ a, s.nextEvent = .xport a ∧ xportStep a s.takeEvent = .next t) ∨
    (s.nextEvent = .tick ∧ t = s.takeEvent.tick) ∨
    (s.nextEvent = .reset ∧ t = s.takeEvent.resetBlock) := by
  unfold step agentStep at h
  split at h <;> simp_all

/-- A SEQ step is the fetched micro-operation's own step, or nothing (R152). -/
theorem seqStep_cases {s : State} {x : Result} (h : seqStep s = x) :
    (s.busy = true ∧ s.xact = .idle ∧ x = exec (fetched s) s) ∨
    ((s.busy = false ∨ s.xact ≠ .idle) ∧ x = .next s) := by
  unfold seqStep seqEnabled at h
  cases hb : s.busy <;> by_cases hx : s.xact = .idle <;> simp_all

/-- An XPORT step hands the response to the fetched micro-operation, or discards it (R151, R165). -/
theorem xportStep_cases {s : State} {a : Answer} {x : Result} (h : xportStep a s = x) :
    (s.xact = .idle ∧ x = .next s) ∨
    (∃ r, s.xact = .out r ∧ x = exec (fetched s) (s.latchResponse (responseTo r a))) := by
  unfold xportStep at h
  split at h <;> simp_all

/-- What a host step is, without unfolding the decoder: a read sets the read data only. -/
theorem hostRead_next (s : State) (v : HData) : hostRead s v = .next { s with rdata := some v } := rfl

theorem hostWriteIgnored_next (s : State) : hostWriteIgnored s = .next { s with rdata := none } := rfl

/-- A host word decodes to a host access. -/
theorem decodeHost_space (w : HWord) : (decodeHost w).space = .host := by
  simp only [decodeHost]
  repeat' split
  all_goals rfl

/-- What a built instance fetches (R104). -/
theorem fetched_built {s : State} (h : s.built) : fetched s = listed s.cfg s.upc.toNat := by
  unfold fetched; rw [h.2]; exact decode_romOf _ _

/-- The addresses SEQ can be at while the INIT program runs. -/
theorem upc_initializing {s : State} (h : s.Inv) (hs : s.state = .initializing) :
    s.upc = 0x00 ∨ s.upc = 0x01 ∨ s.upc = 0x02 ∨ s.upc = 0x03 ∨ s.upc = 0x04 ∨ s.upc = 0x15 := by
  have := h.upc; simp only [hs, upcInProgram, iAbort] at this; bv_omega

/-- The addresses SEQ can be at while the MEASURE program runs. -/
theorem upc_measuring {s : State} (h : s.Inv) (hs : s.state = .measuring) :
    s.upc = 0x05 ∨ s.upc = 0x06 ∨ s.upc = 0x07 ∨ s.upc = 0x08 ∨ s.upc = 0x09 ∨ s.upc = 0x0A ∨ s.upc = 0x0B ∨
    s.upc = 0x0C ∨ s.upc = 0x0D ∨ s.upc = 0x0E ∨ s.upc = 0x0F ∨ s.upc = 0x10 ∨ s.upc = 0x11 ∨ s.upc = 0x12 ∨
    s.upc = 0x13 ∨ s.upc = 0x14 := by
  have := h.upc; simp only [hs, upcInProgram] at this; bv_omega

theorem busy_states {s : State} (h : s.busy = true) : s.state = .initializing ∨ s.state = .measuring := by
  unfold State.busy BlockState.busy at h; cases hs : s.state <;> simp_all

/-- While no program runs nothing is outstanding and no timer counts (R34, R35). -/
theorem quiet_when_not_busy {s : State} (h : s.Inv) (hb : s.busy = false) :
    s.xact = .idle ∧ s.tarmed = false ∧ s.tcnt = 0 ∧ s.brdPh = false ∧ s.upc = 0 := by
  have h1 : s.xact = .idle := by
    cases hx : s.xact with
    | idle => rfl
    | out r => have := (h.xact r hx).1; simp_all
  have h2 : s.tarmed = false := by
    cases hx : s.tarmed with
    | false => rfl
    | true => have := (h.tarmed hx).1; simp_all
  have hu : s.upc = 0 := by
    have := h.upc
    unfold State.busy BlockState.busy at hb
    cases hs : s.state <;> simp_all [upcInProgram]
  have h3 : s.brdPh = false := by
    cases hx : s.brdPh with
    | false => rfl
    | true =>
      have := h.phase hx
      rw [fetched_built h.built, hu] at this
      simp [listed, Instr.kind] at this
  exact ⟨h1, h2, h.tcnt.2 h2, h3, hu⟩

/-- Taking the event off the tape keeps the invariant. -/
theorem takeEvent_inv {s : State} (h : s.Inv) : s.takeEvent.Inv := by
  have hf : fetched s.takeEvent = fetched s := fetched_congr (by simp) (by simp)
  refine ⟨?_, ?_, ?_, ?_, ?_, ?_, ?_, ?_, ?_, ?_, ?_⟩
  · simpa [State.built] using h.built
  · simpa using h.busOwn
  · simpa using h.upc
  · simpa [hf] using h.phase
  · simpa [hf] using h.xact
  · simpa [hf] using h.tarmed
  · simpa using h.tcnt
  · simpa using h.unset
  · simpa [validFits] using h.valid
  · simpa [lastErrFits] using h.lastErr
  · simpa using h.xresp

/-- A run, unfolded once. -/
theorem run_eq (k : Nat) (s : State) : run (k + 1) s =
    (match step s with | .next t => run k t | .fault r => .fault r | .refused r => .refused r : Result) := by
  cases h : step s <;> simp only [run, Host.Core.run, Sys2Proof.core, h]

/-- One more step at the front of a run. -/
theorem run_succ (k : Nat) (s t : State) (h : step s = .next t) : run (k + 1) s = run k t := by
  rw [run_eq, h]

theorem run_zero (s : State) : run 0 s = .next s := rfl

/-- Runs compose. -/
theorem run_add (j k : Nat) (s t : State) (h : run j s = .next t) : run (j + k) s = run k t := by
  induction j generalizing s with
  | zero => rw [run_zero] at h; cases h; rw [Nat.zero_add]
  | succ j ih =>
    rw [Nat.succ_add]
    rw [run_eq] at h ⊢
    split at h
    · exact ih _ h
    · cases h
    · cases h

end Sys2Proof.Machine
end

