-- ==== Sys2Proof/Tests/Slice0.lean ====
section
/-! SUPPORT. The model's own tests: the WellFormed smoke, decoding of words written out from the spec, vectors of
95_test_vectors.md (each test names its row), and for every statement with hypotheses a witness that meets them. -/

namespace Sys2Proof.Tests

open Sys2Proof.Machine

/-! ## WellFormed: an ill-formed term for each check -/

theorem test_wf_refuses_init_as_other : (Instr.hwCmdOther 0xFF01).wellFormed = false := by decide
theorem test_wf_refuses_measure_as_other : (Instr.hwCmdOther 0x0002).wellFormed = false := by decide
theorem test_wf_refuses_release_as_other : (Instr.hwCmdOther 0x0003).wellFormed = false := by decide
theorem test_wf_refuses_defined_offset_read : (Instr.hrRsvd 0x3 0).wellFormed = false := by decide
theorem test_wf_refuses_defined_offset_write : (Instr.hwRsvd 0x0 0).wellFormed = false := by decide
theorem test_wf_refuses_defined_uop : (Instr.rsvdUop 0x4 0).wellFormed = false := by decide
theorem test_wf_refuses_reserved_uop_as_b17 : (Instr.rsvdB17 0x5 ⟨0, 0, 0, 0⟩).wellFormed = false := by decide

/-! ## Decoding: H21 words of R91 to R93 and 95 part 2, written out bit by bit -/

theorem test_decode_init : decodeHost 0b1_0000_11111111_00000001#21 = .hwCmdInit 0xFF := by decide   -- H7
theorem test_decode_measure : decodeHost 0b1_0000_00000000_00000010#21 = .hwCmdMeasure 0 := by decide   -- H2
theorem test_decode_release : decodeHost 0b1_0000_00000000_00000011#21 = .hwCmdRelease 0 := by decide   -- H3
theorem test_decode_other_zero : decodeHost 0b1_0000_00000000_00000000#21 = .hwCmdOther 0 := by decide   -- H4
theorem test_decode_other_ff : decodeHost 0b1_0000_00000000_11111111#21 = .hwCmdOther 0x00FF := by decide   -- H8
theorem test_decode_hr_cmd : decodeHost 0b0_0000_0000000000000000#21 = .hrCmd 0 := by decide   -- R1
theorem test_decode_hr_status : decodeHost 0b0_0001_0000000000000000#21 = .hrStatus 0 := by decide   -- R2
theorem test_decode_hw_status : decodeHost 0b1_0001_1111111111111111#21 = .hwStatus 0xFFFF := by decide   -- R3
theorem test_decode_hw_sel : decodeHost 0b1_0010_0000000000000110#21 = .hwSel 6 := by decide   -- R5
theorem test_decode_hr_sel : decodeHost 0b0_0010_0000000000000000#21 = .hrSel 0 := by decide   -- R4
theorem test_decode_hr_sample : decodeHost 0b0_0011_0000000000000000#21 = .hrSample 0 := by decide   -- P1
theorem test_decode_hw_sample : decodeHost 0b1_0011_0001001000110100#21 = .hwSample 0x1234 := by decide   -- R10
theorem test_decode_hr_rsvd_first : decodeHost 0b0_0100_0000000000000000#21 = .hrRsvd 0x4 0 := by decide   -- R11
theorem test_decode_hr_rsvd_last : decodeHost 0b0_1111_0000000000000000#21 = .hrRsvd 0xF 0 := by decide   -- R11
theorem test_decode_hw_rsvd : decodeHost 0b1_0111_1111111111111111#21 = .hwRsvd 0x7 0xFFFF := by decide   -- R12

/-! U24 words of R104 and P6, and reserved ones of R106 -/

theorem test_decode_end : decodeMicro 0b0000_00_0_0_00000000_00000100#24 = .uopEnd ⟨0, 0, 0, 4⟩ := by decide   -- 0x15
theorem test_decode_bwr : decodeMicro 0b0001_00_0_0_00000001_00111111#24 = .uopBwr ⟨0, 0, 0x01, 0x3F⟩ := by decide   -- 0x05
theorem test_decode_brd : decodeMicro 0b0010_01_0_1_00010010_00000000#24 = .uopBrd ⟨1, 1, 0x12, 0⟩ := by decide   -- 0x0B
theorem test_decode_wait : decodeMicro 0b0011_01_0_0_00000000_00000000#24 = .uopWait ⟨1, 0, 0, 0⟩ := by decide   -- 0x08
theorem test_decode_commit : decodeMicro 0b0100_00_0_0_00000000_00000000#24 = .uopCommit ⟨0, 0, 0, 0⟩ := by decide   -- 0x10
theorem test_decode_rsvd_uop : decodeMicro 0b0101_00_0_0_00000000_00000000#24 = .rsvdUop 0x5 0 := by decide
theorem test_decode_rsvd_b17 : decodeMicro 0b0001_00_1_0_00000001_00111111#24 = .rsvdB17 0x1 ⟨0, 0, 1, 0x3F⟩ := by decide

/-- Numbers that are no code word are refused by name. -/
theorem test_decode_refuses_wide_host : decodeNumber .host 0x200000 = .error .hostWordTooWide := by rfl
theorem test_decode_refuses_wide_micro : decodeNumber .rom 0x1000000 = .error .microwordTooWide := by rfl

theorem test_table_word_host : decodeTableWord 24 0x130000 = some (.hwSample 0) := by decide
theorem test_table_word_rom : decodeTableWord 24 0x340000 = some (.uopWait ⟨1, 0, 0, 0⟩) := by decide

/-- The ROM words R104 lists for the default parameters, literally. -/
theorem test_rom_words : (romOf Config.default).toList =
    [0x100001, 0x300000, 0x100202, 0x300000, 0x000002, 0x10013F, 0x300000, 0x10013E, 0x340000, 0x211000, 0x300000,
     0x251200, 0x300000, 0x291D00, 0x300000, 0x2C1C00, 0x400000, 0x300000, 0x000002, 0x300000, 0x000002, 0x000004,
     0x000004, 0x000004, 0x000004, 0x000004, 0x000004, 0x000004, 0x000004, 0x000004, 0x000004, 0x000004] := by decide

/-- The pseudo-instructions' words (R107, P1). -/
theorem test_pseudo_words : [hostInit, hostMeasure, hostRelease, hostPoll] = [0x100001, 0x100002, 0x100003, 0x010000] ∧
    hostSnapshot = [0x120000, 0x030000, 0x120001, 0x030000, 0x120002, 0x030000, 0x120003, 0x030000] := by decide

/-! ## Small states -/

/-- A block built with the default parameters, in a state and at an address. -/
def mk (st : BlockState) (upc : UAddr) : State :=
  { State.reset with state := st, upc := upc, busOwn := st.holdsBus }

/-- A test instance with short delays (R187). -/
def shortCfg : Config := { Config.default with nSettle := 1, nInteg := 2 }

def mkShort (st : BlockState) (upc : UAddr) : State :=
  { mk st upc with cfg := shortCfg, rom := romOf shortCfg }

/-- A field of the state after one instruction. -/
def after {α : Type} (i : Instr) (s : State) (f : State → α) : Option α :=
  match exec i s with
  | .next t => some (f t)
  | .fault _ => none
  | .refused _ => none

/-- A field of the state after one step. -/
def stepped {α : Type} (s : State) (f : State → α) : Option α :=
  match step s with
  | .next t => some (f t)
  | .fault _ => none
  | .refused _ => none

def flags (s : State) : HData × UAddr := (s.statusWord, s.upc)

/-! ## Host accesses (95 part 2.1, 2.2) -/

theorem test_init_accepted : after (.hwCmdInit 0) (mk .uninit 0) flags = some (0x0109, 0x00) := by decide   -- H1
theorem test_init_rejected : after (.hwCmdInit 0) { mk .failed 0 with lastErr := .busError } flags = some (0x00A4, 0) := by
  decide   -- H24
theorem test_measure_accepted : after (.hwCmdMeasure 0) { mk .ready 0 with valid := true, lastErr := .busError } flags
    = some (0x011B, 0x05) := by decide   -- H19
theorem test_measure_rejected : after (.hwCmdMeasure 0) { mk .measuring 0x0A with valid := true } flags
    = some (0x019B, 0x0A) := by decide   -- H21
theorem test_release_accepted : after (.hwCmdRelease 0) { mk .ready 0 with valid := true, lastErr := .protocolError } flags
    = some (0x0015, 0) := by decide   -- H20
theorem test_release_rejected : after (.hwCmdRelease 0) (mk .initializing 0x02) flags = some (0x0189, 0x02) := by decide   -- H11
theorem test_other_rejected : after (.hwCmdOther 0) { mk .ready 0 with valid := true } flags = some (0x0192, 0) := by
  decide   -- H17
theorem test_hr_cmd : after (.hrCmd 0xFFFF) (mk .ready 0) State.rdata = some (some 0) := by decide   -- R1
theorem test_hr_status : after (.hrStatus 0) (mk .ready 0) State.rdata = some (some 0x0102) := by decide   -- R3
theorem test_hw_status : after (.hwStatus 0xFFFF) (mk .ready 0) flags = some (0x0102, 0) := by decide   -- R3
theorem test_hw_sel : after (.hwSel 0x0006) (mk .measuring 5) State.sel = some 2 := by decide   -- R5
theorem test_hr_sel : after (.hrSel 0) { mk .ready 0 with sel := 3 } State.rdata = some (some 0x0003) := by decide   -- R6
theorem test_hr_sample_vsense : after (.hrSample 0) { mk .ready 0 with sel := 1, committed := ⟨0xFFFF, 0x8001, 0, 0x80⟩ }
    State.rdata = some (some 0x8001) := by decide   -- R9
theorem test_hr_sample_overflow : after (.hrSample 0) { mk .ready 0 with sel := 3, committed := ⟨0xFFFF, 0x8001, 0, 0x80⟩ }
    State.rdata = some (some 0x0080) := by decide   -- R9, 2.8
theorem test_hw_sample : after (.hwSample 0x1234) { mk .ready 0 with committed := ⟨1, 2, 3, 4⟩ } State.committed
    = some ⟨1, 2, 3, 4⟩ := by decide   -- R10
theorem test_hr_rsvd : after (.hrRsvd 0xF 0) (mk .ready 0) State.rdata = some (some 0) := by decide   -- R11
theorem test_hw_rsvd : after (.hwRsvd 0x7 0xFFFF) (mk .ready 0) flags = some (0x0102, 0) := by decide   -- R12

/-! ## Micro-operations (95 part 2.3 to 2.7) -/

def resp (s : State) (r : Request) (p : Response) : State := { s with xact := .out r, xresp := some p }

theorem test_bwr_issue : stepped { mk .measuring 0x05 with sched := [.seq] } State.xact
    = some (.out (.write 0x4C [0x01, 0x3F])) := by decide   -- W5
theorem test_bwr_error : stepped { mk .initializing 0x00 with
    xact := .out (.write 0x4C [0x00, 0x01]), sched := [.xport ⟨false, []⟩] } flags = some (0x0129, 0x15) := by decide   -- W3
theorem test_brd_data : stepped { mk .measuring 0x0B with
    brdPh := true, xact := .out (.read 0x4C 2), sched := [.xport ⟨true, [0xAB, 0xCD]⟩] }
    (fun t => (t.staging.vsense, t.upc, t.brdPh)) = some (0xABCD, 0x0C, false) := by decide   -- B3
theorem test_brd_wrong_count : stepped { mk .measuring 0x0F with
    brdPh := true, xact := .out (.read 0x4C 1), sched := [.xport ⟨true, [0x00, 0x00]⟩] }
    (fun t => (t.lastErr, t.upc, t.brdPh)) = some (.protocolError, 0x13, false) := by decide   -- B11
theorem test_wait_arm : stepped { mk .measuring 0x08 with sched := [.seq] } (fun t => (t.tcnt, t.tarmed, t.upc))
    = some (3001, true, 0x08) := by decide   -- T7
theorem test_wait_retire : stepped { mk .initializing 0x01 with tarmed := true, sched := [.seq] }
    (fun t => (t.tarmed, t.upc)) = some (false, 0x02) := by decide   -- T4
theorem test_end_ready : after (.uopEnd ⟨0, 0, 0, 2⟩) (mk .initializing 0x04) flags = some (0x0102, 0) := by decide   -- E1
theorem test_end_failed : after (.uopEnd ⟨0, 0, 0, 4⟩) { mk .initializing 0x15 with lastErr := .busError } flags
    = some (0x0024, 0) := by decide   -- E2
theorem test_commit : after (.uopCommit ⟨0, 0, 0, 0⟩)
    { mk .measuring 0x10 with staging := ⟨0x0100, 0x0064, 0x0200, 0⟩ } (fun t => (t.committed, t.valid, t.upc))
    = some (⟨0x0100, 0x0064, 0x0200, 0⟩, true, 0x11) := by decide   -- M1
theorem test_rsvd_uop : step (State.reset.withFetchWord 24 0x500000) = .fault .unmodelledMicroOp := by rfl
theorem test_rsvd_b17 : exec (.rsvdB17 0 ⟨0, 0, 0, 0⟩) State.reset = .fault .unmodelledMicroOp := by rfl

/-! Ticks, resets, late responses, and the placed word -/

theorem test_tick_stops_at_zero : stepped { mk .measuring 0x06 with tarmed := true, sched := [.tick] } State.tcnt = some 0 := by
  decide   -- T5
theorem test_tick_unarmed : stepped { mk .measuring 0x05 with tcnt := 7, sched := [.tick] } State.tcnt = some 7 := by
  decide   -- T6, T11
theorem test_reset : stepped { mk .measuring 0x0A with tarmed := true, tcnt := 77, valid := true, sched := [.reset] }
    (fun t => (t.statusWord, t.tarmed, t.tcnt)) = some (0x0000, false, 0) := by decide   -- Z1, Z4
theorem test_late_response : stepped { State.reset with sched := [.xport ⟨true, [1, 2]⟩] } flags = some (0, 0) := by
  decide   -- Z1
theorem test_placed_host_word : stepped (State.reset.withFetchWord 24 0x100001) flags = some (0x0109, 0) := by decide
theorem test_placed_microword : stepped (State.reset.withFetchWord 24 0x400000) (fun t => (t.valid, t.upc)) = some (true, 1) := by
  decide

/-! ## The host-side reference conversion (95 part 2.9): the table's decimals round to the same binary64 values -/

theorem test_v_bus_256 : vBus 256 = B64.ofRatio 6262230919765166 (10 ^ 17) := by decide
theorem test_v_sense_100 : vSense 100 = B64.ofRatio 15288649706457925 (10 ^ 20) := by decide
theorem test_i_sense_100 : iSense 100 = B64.ofRatio 7644324853228962 (10 ^ 18) := by decide
theorem test_v_power_512 : vPower 512 = B64.ofRatio 6262230919765166 (10 ^ 16) := by decide
theorem test_full_scale : (vBus 65408, vSense 65408, iSense 65408, vPower 65408)
    = (B64.ofNat 16, B64.ofRatio 1 10, B64.ofNat 5, B64.ofNat 80) := by decide
theorem test_code_65535 : (vBus 65535, vSense 65535, iSense 65535, vPower 65535)
    = (B64.ofRatio 1603106653620352 (10 ^ 14), B64.ofRatio 10019416585127201 (10 ^ 17),
       B64.ofRatio 5009708292563601 (10 ^ 15), B64.ofRatio 8015533268101761 (10 ^ 14)) := by decide

/-! ## Witnesses: for every statement with hypotheses, states and operands that meet them, clause by clause -/

/-- States that meet the invariant, for the statements that ask for it. -/
def invReset : State := { mkShort .uninit 0 with sched := [.tick] }
def invReady : State := mkShort .ready 0
def invInitStart : State := mkShort .initializing 0x00
def invInitOut : State :=
  { mkShort .initializing 0x02 with xact := .out (.write 0x4C [0x02, 0x02]), sched := [.xport ⟨false, []⟩] }
def invMeasStart : State := { mkShort .measuring 0x05 with sched := [.seq] }
def invMeasOut : State :=
  { mkShort .measuring 0x0F with brdPh := true, xact := .out (.read 0x4C 1), sched := [.xport ⟨false, []⟩] }
def invWait : State := { mkShort .measuring 0x08 with tarmed := true, tcnt := 2, sched := [.tick, .tick, .seq] }
def invMAbort : State := { mkShort .measuring 0x13 with lastErr := .protocolError }
def invIAbort : State := { mkShort .initializing 0x15 with lastErr := .busError }
/-- A request outstanding, then its answer, a WAIT of one tick, and the next request (R191). -/
def invSpaced : State :=
  { mkShort .measuring 0x05 with xact := .out (.write 0x4C [0x01, 0x3F]),
                                 sched := [.xport ⟨true, []⟩, .seq, .tick, .seq, .seq] }

theorem witness_inv_reset : invReset.Inv :=
  ⟨⟨by decide, rfl⟩, rfl, rfl, by decide, (fun _ h => by cases h), by decide, by decide, by decide, rfl, rfl, rfl⟩
theorem witness_inv_ready : invReady.Inv :=
  ⟨⟨by decide, rfl⟩, rfl, rfl, by decide, (fun _ h => by cases h), by decide, by decide, by decide, trivial, trivial, rfl⟩
theorem witness_inv_init_start : invInitStart.Inv :=
  ⟨⟨by decide, rfl⟩, rfl, .inl (by decide), by decide, (fun _ h => by cases h), by decide, by decide, by decide, rfl, rfl, rfl⟩
theorem witness_inv_init_out : invInitOut.Inv :=
  ⟨⟨by decide, rfl⟩, rfl, .inl (by decide), by decide, (fun _ h => by cases h; decide), by decide, by decide, by decide, rfl,
    rfl, rfl⟩
theorem witness_inv_meas_start : invMeasStart.Inv :=
  ⟨⟨by decide, rfl⟩, rfl, ⟨by decide, by decide⟩, by decide, (fun _ h => by cases h), by decide, by decide, by decide,
    (fun h => absurd h (by decide)), ⟨fun _ => by decide, fun _ => rfl⟩, rfl⟩
theorem witness_inv_meas_out : invMeasOut.Inv :=
  ⟨⟨by decide, rfl⟩, rfl, ⟨by decide, by decide⟩, by decide, (fun _ h => by cases h; decide), by decide, by decide, by decide,
    (fun h => absurd h (by decide)), ⟨fun _ => by decide, fun _ => rfl⟩, rfl⟩
theorem witness_inv_wait : invWait.Inv :=
  ⟨⟨by decide, rfl⟩, rfl, ⟨by decide, by decide⟩, by decide, (fun _ h => by cases h), by decide, by decide, by decide,
    (fun h => absurd h (by decide)), ⟨fun _ => by decide, fun _ => rfl⟩, rfl⟩
theorem witness_inv_mabort : invMAbort.Inv :=
  ⟨⟨by decide, rfl⟩, rfl, ⟨by decide, by decide⟩, by decide, (fun _ h => by cases h), by decide, by decide, by decide,
    (fun h => absurd h (by decide)), ⟨fun h => absurd h (by decide), fun h => absurd h (by decide)⟩, rfl⟩
theorem witness_inv_iabort : invIAbort.Inv :=
  ⟨⟨by decide, rfl⟩, rfl, .inr rfl, by decide, (fun _ h => by cases h), by decide, by decide, by decide, rfl, rfl, rfl⟩
theorem witness_inv_spaced : invSpaced.Inv :=
  ⟨⟨by decide, rfl⟩, rfl, ⟨by decide, by decide⟩, by decide, (fun _ h => by cases h; decide), by decide, by decide, by decide,
    (fun h => absurd h (by decide)), ⟨fun _ => by decide, fun _ => rfl⟩, rfl⟩

/-! Encoding -/

theorem witness_DecodeOfEncodeIsTheInstruction :
    (Instr.hwCmdOther 0xFF04).wellFormed = true ∧ (Instr.hrRsvd 0x4 0).wellFormed = true ∧
    (Instr.rsvdUop 0x5 0).wellFormed = true ∧ (Instr.rsvdB17 0x4 ⟨0, 0, 0, 0⟩).wellFormed = true := by decide

/-- The W bit, the offset and the code of a host word: the hypotheses of the decode map's rows. -/
def hostFields (w : HWord) : Bool × HAddr × Byte := (w.getLsbD 20, w.extractLsb' 16 4, w.extractLsb' 0 8)

theorem witness_HostWordsDecodeByTheDecodeMap :
    hostFields 0x100001 = (true, 0x0, 0x01) ∧ hostFields 0x10FF02 = (true, 0x0, 0x02) ∧
    hostFields 0x100003 = (true, 0x0, 0x03) ∧ hostFields 0x100004 = (true, 0x0, 0x04) ∧
    hostFields 0x100000 = (true, 0x0, 0x00) ∧ hostFields 0x000001 = (false, 0x0, 0x01) ∧
    hostFields 0x010000 = (false, 0x1, 0) ∧ hostFields 0x110000 = (true, 0x1, 0) ∧
    hostFields 0x120000 = (true, 0x2, 0) ∧ hostFields 0x020000 = (false, 0x2, 0) ∧
    hostFields 0x030000 = (false, 0x3, 0) ∧ hostFields 0x130000 = (true, 0x3, 0) ∧
    hostFields 0x040000 = (false, 0x4, 0) ∧ hostFields 0x0F0000 = (false, 0xF, 0) ∧
    hostFields 0x140000 = (true, 0x4, 0) ∧ hostFields 0x1F0000 = (true, 0xF, 0) := by decide

/-- Bit 17 and the UOP code of a microword. -/
def microHead (w : UWord) : Bool × BitVec 4 := (w.getLsbD 17, w.extractLsb' 20 4)

theorem witness_MicrowordsDecodeByUop :
    microHead 0x000002 = (false, 0x0) ∧ microHead 0x10013F = (false, 0x1) ∧ microHead 0x211000 = (false, 0x2) ∧
    microHead 0x300000 = (false, 0x3) ∧ microHead 0x400000 = (false, 0x4) ∧ microHead 0x500000 = (false, 0x5) ∧
    microHead 0xF20000 = (true, 0xF) ∧ microHead 0x020000 = (true, 0x0) ∧ microHead 0x420000 = (true, 0x4) := by decide

/-! Steps and reset -/

theorem witness_StepRunsTheDecodedInstruction_host :
    (Instr.hwSel 3).wellFormed = true ∧ encode (.hwSel 3) = .host 0x120003 ∧
    (mk .measuring 0x0A |>.withTape [.host 0x120003]).sched = [.host 0x120003] := by decide
theorem witness_StepRunsTheDecodedInstruction_seq :
    (Instr.uopBwr ⟨0, 0, 0x01, 0x3F⟩).wellFormed = true ∧
    encode (.uopBwr ⟨0, 0, 0x01, 0x3F⟩) = .rom (romAt invMeasStart.rom invMeasStart.upc) ∧
    invMeasStart.busy = true ∧ invMeasStart.xact = .idle ∧ invMeasStart.sched = [.seq] := by decide
theorem witness_StepRunsTheDecodedInstruction_xport :
    (Instr.uopBrd ⟨3, 0, 0x1C, 0⟩).wellFormed = true ∧
    encode (.uopBrd ⟨3, 0, 0x1C, 0⟩) = .rom (romAt invMeasOut.rom invMeasOut.upc) ∧
    invMeasOut.xact = .out (.read 0x4C 1) ∧ invMeasOut.sched = [.xport ⟨false, []⟩] := by decide
theorem witness_DisabledAgentsChangeNothing :
    (invReady.withTape [.seq]).busy = false ∧ (invReady.withTape [.seq]).sched = [.seq] ∧
    (invMeasOut.withTape [.seq]).xact = .out (.read 0x4C 1) ∧ (invMeasOut.withTape [.seq]).sched = [.seq] ∧
    (invReady.withTape [.xport okAnswer]).xact = .idle ∧ (invReady.withTape [.xport okAnswer]).sched = [.xport okAnswer] := by
  decide
theorem witness_ResetSetsEveryElement : (invMeasOut.withTape [.reset]).sched = [.reset] := by decide
theorem witness_EveryStepKeepsTheInvariant : invWait.Inv ∧ ∃ t, step invWait = .next t := ⟨witness_inv_wait, _, rfl⟩
theorem witness_InvariantStatesNeverStop : invMeasOut.Inv := witness_inv_meas_out

/-! Host accesses -/

theorem witness_InitStartsTheProgramOrIsRejected : (mk .uninit 0).state = .uninit ∧ (mk .closed 0).state ≠ .uninit := by decide
theorem witness_MeasureStartsTheProgramOrIsRejected : (mk .ready 0).state = .ready ∧ (mk .measuring 5).state ≠ .ready := by
  decide
theorem witness_ReleaseClosesOrIsRejected :
    ((mk .failed 0).state = .uninit ∨ (mk .failed 0).state = .ready ∨ (mk .failed 0).state = .failed) ∧
    ((mk .closed 0).state = .initializing ∨ (mk .closed 0).state = .measuring ∨ (mk .closed 0).state = .closed) := by decide
theorem witness_RejectedCommandOnlySetsCmdRej :
    (invMeasStart.withTape [.host 0x100002]).sched = [.host (hostWord true 0x0 (0x00#8 ++ 0x02#8))] ∧
    ¬ ((0x02#8 = 0x01 ∧ invMeasStart.state = .uninit) ∨ (0x02#8 = 0x02 ∧ invMeasStart.state = .ready) ∨
       (0x02#8 = 0x03 ∧ (invMeasStart.state = .uninit ∨ invMeasStart.state = .ready ∨ invMeasStart.state = .failed))) := by
  decide
theorem witness_AcceptedCommandClearsTheFlags :
    (invReady.withTape [.host 0x10FF03]).sched = [.host (hostWord true 0x0 (0xFF#8 ++ 0x03#8))] ∧
    ((0x03#8 = 0x01 ∧ invReady.state = .uninit) ∨ (0x03#8 = 0x02 ∧ invReady.state = .ready) ∨
       (0x03#8 = 0x03 ∧ (invReady.state = .uninit ∨ invReady.state = .ready ∨ invReady.state = .failed))) := by decide
theorem witness_HostReadsReturnTheirRegister :
    (BitVec.ofBool invReady.busOwn ++ BitVec.ofBool invReady.cmdRej ++ invReady.lastErr.code ++ BitVec.ofBool invReady.valid ++
      BitVec.ofBool invReady.busy ++ invReady.state.code).zeroExtend 16 = 0x0102#16 ∧
    (mk .ready 0).sel = 0 ∧ { mk .ready 0 with sel := 1 }.sel = 1 ∧ { mk .ready 0 with sel := 2 }.sel = 2 ∧
    { mk .ready 0 with sel := 3 }.sel = 3 := by decide
theorem witness_StatusWordLayout : (0x0109 : HData) = invInitStart.statusWord := by decide
theorem witness_HostStepIsEnabledInEveryState :
    (invMeasOut.withTape [.host 0x1F0000]).sched = [.host 0x1F0000] ∧ (0x1F0000 : HWord).getLsbD 20 = true ∧
    (invMeasOut.withTape [.host 0x030000]).sched = [.host 0x030000] ∧ (0x030000 : HWord).getLsbD 20 = false := by decide
theorem witness_HostStepFrame :
    (invReady.withTape [.host 0x100002]).sched = [.host 0x100002] ∧
    ∃ t, step (invReady.withTape [.host 0x100002]) = .next t := ⟨rfl, _, rfl⟩
theorem witness_NoHostAccessDisturbsAProgram :
    (invMeasOut.withTape [.host 0x100003]).sched = [.host 0x100003] ∧ (invMeasOut.withTape [.host 0x100003]).busy = true ∧
    (0x100003 : HWord).getLsbD 20 = true ∧ (0x100003 : HWord).extractLsb' 16 4 = 0x0#4 := by decide
theorem witness_HostReadsAreIdempotent :
    (invReady.withTape [.host 0x030000, .host 0x03FFFF]).sched = [.host 0x030000, .host 0x03FFFF] ∧
    (0x030000 : HWord).getLsbD 20 = false ∧ (0x03FFFF : HWord).getLsbD 20 = false ∧
    (0x030000 : HWord).extractLsb' 16 4 = (0x03FFFF : HWord).extractLsb' 16 4 := by decide
theorem witness_SelWriteIsSeenByTheNextSampleRead :
    (invReady.withTape [.host (hw regSEL 0xFFFF), .host (hr regSAMPLE)]).sched
      = [.host (hw regSEL 0xFFFF), .host (hr regSAMPLE)] := by decide
theorem witness_SnapshotReadsTheCommittedBank :
    (invReady.withTape (hostSnapshot.map .host)).sched = hostSnapshot.map .host ++ [] := by decide
theorem witness_HiddenStateIsNotObservable : (invReady.withTape [.host 0x100002]).sched = [.host 0x100002] := by decide

/-! The register sequencer -/

theorem witness_BusOperationsIssueTheirRequest :
    (mk .measuring 9).xact = .idle ∧ (mk .measuring 9).xresp = none ∧ (mk .measuring 9).brdPh = false ∧
    { mk .measuring 9 with brdPh := true }.brdPh = true := by decide
theorem witness_BwrRetiresOnSuccess :
    (resp (mk .measuring 5) (.write 0x4C [1, 0x3F]) .wOk).xact = .out (.write 0x4C [1, 0x3F]) ∧
    (resp (mk .measuring 5) (.write 0x4C [1, 0x3F]) .wOk).xresp = some .wOk := by decide
theorem witness_BusErrorAborts :
    (resp (mk .measuring 9) (.write 0x4C [0x10]) .wErr).xact = .out (.write 0x4C [0x10]) ∧
    (resp (mk .measuring 9) (.write 0x4C [0x10]) .wErr).xresp = some .wErr ∧
    (resp (mk .measuring 9) (.write 0x4C [0x10]) .wErr).brdPh = false ∧
    ((mk .measuring 9).state = .measuring ∧ (0x13 : UAddr) = 0x13 ∨ (mk .measuring 9).state = .initializing ∧ (0x13 : UAddr) = 0x15) ∧
    (resp { mk .measuring 9 with brdPh := true } (.read 0x4C 2) .rErr).xresp = some .rErr ∧
    (resp { mk .measuring 9 with brdPh := true } (.read 0x4C 2) .rErr).brdPh = true ∧
    ((mk .initializing 0).state = .measuring ∧ (0x15 : UAddr) = 0x13 ∨ (mk .initializing 0).state = .initializing ∧ (0x15 : UAddr) = 0x15) := by
  decide
theorem witness_BrdGoesOnToTheDataRead :
    (resp (mk .measuring 9) (.write 0x4C [0x10]) .wOk).xact = .out (.write 0x4C [0x10]) ∧
    (resp (mk .measuring 9) (.write 0x4C [0x10]) .wOk).xresp = some .wOk ∧
    (resp (mk .measuring 9) (.write 0x4C [0x10]) .wOk).brdPh = false := by decide

/-- A BRD in phase 1 whose read returned `bs`. -/
def readBack (bs : List Byte) : State := resp { mk .measuring 9 with brdPh := true } (.read 0x4C 2) (.rOk bs)

theorem witness_BrdStoresTheBytesItReceives :
    (readBack [0xFF, 0x80]).xact = .out (.read 0x4C 2) ∧ (readBack [0xFF, 0x80]).xresp = some (.rOk [0xFF, 0x80]) ∧
    (readBack [0xFF, 0x80]).brdPh = true ∧ ([0xFF, 0x80] : List Byte).length = (1 : BitVec 1).toNat + 1 ∧
    ([0xFF] : List Byte).length = (0 : BitVec 1).toNat + 1 := by decide
theorem witness_WrongByteCountAborts :
    (readBack []).xact = .out (.read 0x4C 2) ∧ (readBack []).xresp = some (.rOk []) ∧ (readBack []).brdPh = true ∧
    ([] : List Byte).length ≠ (1 : BitVec 1).toNat + 1 ∧ ([1, 2, 3] : List Byte).length ≠ (1 : BitVec 1).toNat + 1 ∧
    ((readBack []).state = .measuring ∧ (0x13 : UAddr) = 0x13 ∨ (readBack []).state = .initializing ∧ (0x13 : UAddr) = 0x15) := by
  decide

/-! Timing and the end of a program -/

theorem witness_WaitArmsAndRetires :
    (mk .measuring 6).xact = .idle ∧ (mk .measuring 6).xresp = none ∧
    ((0 : BitVec 2) = 0 ∧ 151 = (mk .measuring 6).cfg.nSettle ∨ (0 : BitVec 2) = 1 ∧ 151 = (mk .measuring 6).cfg.nInteg) ∧
    ((1 : BitVec 2) = 0 ∧ 3001 = (mk .measuring 8).cfg.nSettle ∨ (1 : BitVec 2) = 1 ∧ 3001 = (mk .measuring 8).cfg.nInteg) ∧
    (mk .measuring 6).tarmed = false ∧ { mk .measuring 6 with tarmed := true }.tarmed = true ∧
    { mk .measuring 6 with tarmed := true }.tcnt = 0 ∧ 0 < { mk .measuring 6 with tarmed := true, tcnt := 1 }.tcnt := by decide
theorem witness_EndSetsTheNextState :
    (mk .measuring 0x12).xact = .idle ∧ (mk .measuring 0x12).xresp = none ∧ (2 : Byte).toNat % 8 = 2 ∧
    (4 : Byte).toNat % 8 = 4 := by decide
theorem witness_CommitPublishesTheStagingBank :
    (mk .measuring 0x10).xact = .idle ∧ (mk .measuring 0x10).xresp = none := by decide
theorem witness_ReservedMicrowordsFault :
    2 ≤ (2 : BitVec 2).toNat ∧ 2 ≤ (3 : BitVec 2).toNat ∧ (3 : Byte).toNat % 8 ≠ 2 ∧ (3 : Byte).toNat % 8 ≠ 4 := by decide
theorem witness_WaitLastsItsTicks : invWait.tarmed = true ∧ waitRetiresIn 3 invWait = true := by decide

/-- A conforming instance with a slow tick: 10 Hz, 3 and 31 ticks (R187), in a WAIT about to retire. -/
def slowCfg : Config := { Config.default with fTick := 10, nSettle := 3, nInteg := 31 }
def slowWait (upc : UAddr) (n : Nat) : State :=
  { mk .measuring upc with cfg := slowCfg, rom := romOf slowCfg, tarmed := true, tcnt := n,
                           sched := List.replicate n .tick ++ [.seq] }

theorem witness_ConformingWaitsMeetTheDelays :
    slowCfg.sourceValues = true ∧ slowCfg.conforming = true ∧
    (slowWait 6 3).tarmed = true ∧ waitRetiresIn 4 (slowWait 6 3) = true ∧ (slowWait 6 3).tcnt = slowCfg.nSettle ∧
    waitRetiresIn 32 (slowWait 8 31) = true ∧ (slowWait 8 31).tcnt = slowCfg.nInteg := by decide

/-! Rules about the whole machine -/

theorem witness_RomAndParametersNeverChange : ∃ t, step invMeasStart = .next t := ⟨_, rfl⟩
theorem witness_CommittedBankChangesOnlyAtCommit :
    (∃ t, step invMeasStart = .next t) ∧ (∃ t, step { mk .measuring 0x10 with sched := [.seq] } = .next t) ∧
    (∃ t, step (invReady.withTape [.reset]) = .next t) := ⟨⟨_, rfl⟩, ⟨_, rfl⟩, ⟨_, rfl⟩⟩
theorem witness_OnlyTheListedTransitionsExist :
    (invReady.Inv ∧ invMAbort.Inv) ∧ ∃ t, step (invReady.withTape [.host 0x100002]) = .next t :=
  ⟨⟨witness_inv_ready, witness_inv_mabort⟩, _, rfl⟩
theorem witness_FailedRequestLeavesTheSampleAlone :
    (invMeasOut.Inv ∧ invMeasOut.xact = .out (.read 0x4C 1) ∧ invMeasOut.sched = [.xport ⟨false, []⟩]) ∧
    (invInitOut.Inv ∧ invInitOut.xact = .out (.write 0x4C [0x02, 0x02]) ∧ invInitOut.sched = [.xport ⟨false, []⟩]) :=
  ⟨⟨witness_inv_meas_out, rfl, rfl⟩, ⟨witness_inv_init_out, rfl, rfl⟩⟩
theorem witness_AbortTailsReturn :
    (invMAbort.Inv ∧ invMAbort.state = .measuring ∧ invMAbort.upc = 0x13 ∧ invMAbort.tarmed = false) ∧
    (invIAbort.Inv ∧ invIAbort.state = .initializing ∧ invIAbort.upc = 0x15) :=
  ⟨⟨witness_inv_mabort, rfl, rfl, rfl⟩, ⟨witness_inv_iabort, rfl, rfl⟩⟩
theorem witness_ProgramsIssueTheirRequestsInOrder :
    (invMeasStart.Inv ∧ invMeasStart.busy = true ∧ (∃ t, step invMeasStart = .next t) ∧ invMeasStart.nextEvent ≠ .reset) ∧
    (invInitStart.Inv ∧ invInitStart.cfg.sourceValues = true ∧ invInitStart.state = .initializing ∧ invInitStart.upc = 0x00 ∧
      invInitStart.xact = .idle) ∧
    (invMeasStart.cfg.sourceValues = true ∧ invMeasStart.state = .measuring ∧ invMeasStart.upc = 0x05 ∧
      invMeasStart.xact = .idle) :=
  ⟨⟨witness_inv_meas_start, by decide, ⟨_, rfl⟩, by decide⟩, ⟨witness_inv_init_start, by decide, rfl, rfl, rfl⟩,
    ⟨by decide, rfl, rfl, rfl⟩⟩
theorem witness_ProgramsCountTheirTicks :
    (invWait.Inv ∧ invWait.busy = true ∧ invWait.nextEvent ≠ .reset ∧ stepped invWait State.lastErr = some invWait.lastErr) ∧
    (invInitStart.Inv ∧ invInitStart.state = .initializing ∧ invInitStart.upc = 0x00) ∧
    (invMeasStart.Inv ∧ invMeasStart.state = .measuring ∧ invMeasStart.upc = 0x05) :=
  ⟨⟨witness_inv_wait, by decide, by decide, by decide⟩, ⟨witness_inv_init_start, rfl, rfl⟩, ⟨witness_inv_meas_start, rfl, rfl⟩⟩
theorem witness_RequestsAreSpacedByAWait :
    invSpaced.Inv ∧ invSpaced.xact = .out (.write 0x4C [0x01, 0x3F]) ∧ noResetIn 4 invSpaced = true ∧
    (∃ t u, stateAt invSpaced 4 = some t ∧ step t = .next u ∧
      requestIssued t u = some (.write 0x4C [0x01, 0x3E]) ∧ t.brdPh = false) :=
  ⟨witness_inv_spaced, rfl, by decide, _, _, rfl, rfl, rfl, rfl⟩
theorem witness_UnansweredRequestHangsTheBlock :
    invMeasOut.Inv ∧ invMeasOut.xact = .out (.read 0x4C 1) ∧
    ∀ e ∈ [Event.seq, .tick, .host 0x100002], e ≠ .reset ∧ ∀ a, e ≠ .xport a :=
  ⟨witness_inv_meas_out, rfl, by simp⟩
theorem witness_InitProgramReachesReady :
    invReset.Inv ∧ invReset.cfg.sourceValues = true ∧ invReset.state = .uninit := ⟨witness_inv_reset, by decide, rfl⟩
theorem witness_MeasureProgramCommitsTheBytes :
    invReady.Inv ∧ invReady.cfg.sourceValues = true ∧ invReady.state = .ready := ⟨witness_inv_ready, by decide, rfl⟩

end Sys2Proof.Tests
end

/-! # What a step can do, said once per agent

`StepEffect s t` lists every way a step leads from `s` to `t`. It is assembled from `HostEffect` (a host access),
`OwnEffect` (a micro-operation's own step) and `Completion` (a micro-operation consuming a transport response). Proofs about
steps split on these cases and use the field lemmas of the operations; they do not unfold `step` or `exec`. -/

namespace Sys2Proof

@[simp] theorem Instr.kind_uopEnd (f : UFields) : (Instr.uopEnd f).kind = .endProgram := rfl
@[simp] theorem Instr.kind_uopBwr (f : UFields) : (Instr.uopBwr f).kind = .write := rfl
@[simp] theorem Instr.kind_uopBrd (f : UFields) : (Instr.uopBrd f).kind = .read := rfl
@[simp] theorem Instr.kind_uopWait (f : UFields) : (Instr.uopWait f).kind = .wait := rfl
@[simp] theorem Instr.kind_uopCommit (f : UFields) : (Instr.uopCommit f).kind = .commit := rfl

end Sys2Proof

namespace Sys2Proof.Machine

/-! ## Host accesses -/

/-- What a host access does (40_host_interface.md section 5). -/
inductive HostEffect (s : State) : State → Prop
  /-- A read, or a write that is ignored: only the read data port. -/
  | access (v : Option HData) : HostEffect s (s.setRdata v)
  | select (c : BitVec 2) : HostEffect s ((s.setSel c).setRdata none)
  | reject : HostEffect s (s.reject.setRdata none)
  | init (hs : s.state = .uninit) :
      HostEffect s (((s.startProgram .initializing initEntry).setBusOwn true).clearFlags.setRdata none)
  | measure (hs : s.state = .ready) : HostEffect s ((s.startProgram .measuring measEntry).clearFlags.setRdata none)
  | release (hs : s.state = .uninit ∨ s.state = .ready ∨ s.state = .failed) :
      HostEffect s ((s.close.setBusOwn false).clearFlags.setRdata none)

/-- A CMD write is rejected, or does what the command does when it is accepted (R242). -/
theorem command_effect {s : State} {accepted : Bool} {act : State → State}
    (hacc : accepted = true → HostEffect s ((act s).clearFlags.setRdata none)) :
    ∃ t, command s accepted act = .next t ∧ HostEffect s t := by
  cases accepted with
  | false => exact ⟨_, rfl, .reject⟩
  | true => exact ⟨_, rfl, hacc rfl⟩

theorem releasable_iff (st : BlockState) : releasable st = true ↔ st = .uninit ∨ st = .ready ∨ st = .failed := by
  simp [releasable, or_assoc]

/-- Every host access completes (R120), with one of the effects listed. -/
theorem exec_hostEffect {i : Instr} (hi : i.space = .host) (s : State) : ∃ t, exec i s = .next t ∧ HostEffect s t := by
  cases i with
  | hwCmdInit ign => apply command_effect; exact fun h => .init (beq_iff_eq.mp h)
  | hwCmdMeasure ign => apply command_effect; exact fun h => .measure (beq_iff_eq.mp h)
  | hwCmdRelease ign => apply command_effect; exact fun h => .release ((releasable_iff _).mp h)
  | hwCmdOther d => apply command_effect; exact fun h => absurd h Bool.false_ne_true
  | hwSel d => exact ⟨_, rfl, .select _⟩
  | hrCmd | hrStatus | hwStatus | hrSel | hrSample | hwSample | hrRsvd | hwRsvd => exact ⟨_, rfl, .access _⟩
  | uopEnd | uopBwr | uopBrd | uopWait | uopCommit | rsvdUop | rsvdB17 => cases hi

theorem hostStep_effect {w : HWord} {s t : State} (h : hostStep w s = .next t) : HostEffect s t := by
  obtain ⟨u, hu, heff⟩ := exec_hostEffect (decodeHost_space w) s
  have hut : u = t := by simpa [hostStep, hu] using h
  exact hut ▸ heff

/-- A step whose event is a host access executes the access on the state with the event taken off the tape. -/
theorem step_host {s : State} {w : HWord} {rest : List Event} (h : s.sched = .host w :: rest) :
    step s = exec (decodeHost w) { s with sched := rest, rdata := none } := by
  rw [step, State.nextEvent_cons _ _ _ h, State.takeEvent_cons _ _ _ h]; rfl

/-! ## Micro-operations -/

/-- The step micro-operation `i` takes by itself, with XACT = IDLE and no response (R152). -/
inductive OwnEffect (i : Instr) (s : State) : State → Prop
  /-- A BWR or BRD makes the request of its phase; a BWR has one phase only. -/
  | issue {r : Request} (hr : requestOf s.cfg i (s.brdPh && i.kind == .read) = some r) : OwnEffect i s (s.issue r)
  | arm {f : UFields} {n : Nat} (hi : i = .uopWait f) (hn : delayOf s.cfg f = some n) (ha : s.tarmed = false) :
      OwnEffect i s (s.armTimer n)
  | counting (hi : i.kind = .wait) (ha : s.tarmed = true) (hc : s.tcnt ≠ 0) : OwnEffect i s s
  | expire (hi : i.kind = .wait) (ha : s.tarmed = true) (hc : s.tcnt = 0) : OwnEffect i s s.disarmTimer.retire
  | commit (hi : i.kind = .commit) : OwnEffect i s s.commitStaging.retire
  | finish {f : UFields} {st : BlockState} (hi : i = .uopEnd f) (hst : endState f = some st) :
      OwnEffect i s (s.endProgram st)

/-- What micro-operation `i` does with the response `p` to its request (R154 to R162); `s` has XACT = IDLE already. -/
inductive Completion (i : Instr) (p : Response) (s : State) : State → Prop
  | written (hi : i.kind = .write) (hp : p = .wOk) : Completion i p s s.retire
  | pointed (hi : i.kind = .read) (hph : s.brdPh = false) (hp : p = .wOk) : Completion i p s (s.setPhase true)
  | received {f : UFields} {bs : List Byte} {v : HData} (hi : i = .uopBrd f) (hph : s.brdPh = true)
      (hp : p = .rOk bs) (hv : readValue f bs = some v) :
      Completion i p s ((s.stageValue f.a v).setPhase false).retire
  | failed (hi : i.kind = .write ∨ i.kind = .read) (hp : p = .wErr ∨ p = .rErr) :
      Completion i p s (s.abort .busError)
  /-- A wrong byte count (R161). -/
  | malformed {f : UFields} {bs : List Byte} (hi : i = .uopBrd f) (hph : s.brdPh = true) (hp : p = .rOk bs)
      (hv : readValue f bs = none) : Completion i p s (s.abort .protocolError)

/-- What executing micro-operation `i` does, by the transport port's state. -/
inductive MicroEffect (i : Instr) (s : State) : State → Prop
  | own {t : State} (hx : s.xact = .idle) (hr : s.xresp = none) (ht : OwnEffect i s t) : MicroEffect i s t
  | discarded (hx : s.xact = .idle) (hr : s.xresp ≠ none) : MicroEffect i s s.discardResponse
  | blocked {r : Request} (hx : s.xact = .out r) (hr : s.xresp = none) : MicroEffect i s s
  | completed {t : State} {r : Request} {p : Response} (hx : s.xact = .out r) (hr : s.xresp = some p)
      (ht : Completion i p s.takeResponse t) : MicroEffect i s t

/-- A sequenced micro-operation has an effect listed if its own step and its completion have. -/
theorem sequenced_effect {i : Instr} {s t : State} {own : Result} {consume : Response → State → Result}
    (hown : own = .next t → OwnEffect i s t)
    (hcons : ∀ p, consume p s.takeResponse = .next t → Completion i p s.takeResponse t)
    (h : sequenced s own consume = .next t) : MicroEffect i s t := by
  obtain ⟨hx, hr, ho⟩ | ⟨hx, hr, hd⟩ | ⟨⟨r, hx⟩, hr, hb⟩ | ⟨r, p, hx, hr, hc⟩ := sequenced_cases h
  · exact .own hx hr (hown ho.symm)
  · cases hd; exact .discarded hx hr
  · cases hb; exact .blocked hx hr
  · exact .completed hx hr (hcons p hc.symm)

/-- The micro-operations that issue no request consume no response (log 12). -/
theorem noResponseRule_ne_next (p : Response) (s t : State) : noResponseRule p s ≠ .next t := nofun

theorem completeBwr_completion {i : Instr} (hi : i.kind = .write) {p : Response} {s t : State}
    (h : completeBwr p s = .next t) : Completion i p s t := by
  cases p with
  | wOk => cases h; exact .written hi rfl
  | wErr => cases h; exact .failed (.inl hi) (.inl rfl)
  | rOk bs => cases h
  | rErr => cases h

theorem completePointer_completion {i : Instr} (hi : i.kind = .read) {p : Response} {s t : State}
    (hph : s.brdPh = false) (h : completePointer p s = .next t) : Completion i p s t := by
  cases p with
  | wOk => cases h; exact .pointed hi hph rfl
  | wErr => cases h; exact .failed (.inr hi) (.inl rfl)
  | rOk bs => cases h
  | rErr => cases h

theorem completeData_completion {f : UFields} {p : Response} {s t : State} (hph : s.brdPh = true)
    (h : completeData f p s = .next t) : Completion (.uopBrd f) p s t := by
  cases p with
  | wOk => cases h
  | wErr => cases h
  | rErr => cases h; exact .failed (.inr rfl) (.inr rfl)
  | rOk bs =>
    simp only [completeData] at h
    split at h
    next v hv => cases h; exact .received rfl hph rfl hv
    next hv => cases h; exact .malformed rfl hph rfl hv

theorem waitStep_effect {f : UFields} {n : Nat} {s t : State} (hn : delayOf s.cfg f = some n)
    (h : waitStep n s = .next t) : OwnEffect (.uopWait f) s t := by
  unfold waitStep at h
  split at h
  next ha =>
    split at h
    next hc => cases h; exact .expire rfl ha hc
    next hc => cases h; exact .counting rfl ha hc
  next ha => cases h; exact .arm rfl hn (Bool.eq_false_iff.mpr ha)

theorem execUopBrd_effect {f : UFields} {s t : State} (h : execUopBrd f s = .next t) :
    MicroEffect (.uopBrd f) s t := by
  unfold execUopBrd at h
  split at h
  next hp =>
    refine sequenced_effect (fun ho => ?_) (fun _ => completeData_completion hp) h
    cases ho; exact .issue (by simp [requestOf, hp])
  next hp =>
    refine sequenced_effect (fun ho => ?_) (fun _ => completePointer_completion rfl (Bool.eq_false_iff.mpr hp)) h
    cases ho; exact .issue (by simp [requestOf, hp])

theorem execUopWait_effect {f : UFields} {s t : State} (h : execUopWait f s = .next t) :
    MicroEffect (.uopWait f) s t := by
  unfold execUopWait at h
  split at h
  next n hn => exact sequenced_effect (waitStep_effect hn) (fun p hc => absurd hc (noResponseRule_ne_next p _ _)) h
  next => cases h

theorem execUopEnd_effect {f : UFields} {s t : State} (h : execUopEnd f s = .next t) :
    MicroEffect (.uopEnd f) s t := by
  unfold execUopEnd at h
  split at h
  next st hst =>
    refine sequenced_effect (fun ho => ?_) (fun p hc => absurd hc (noResponseRule_ne_next p _ _)) h
    cases ho; exact .finish rfl hst
  next => cases h

/-- A micro-operation that does not stop has one of the effects listed. -/
theorem exec_microEffect {i : Instr} (hi : i.space = .rom) {s t : State} (h : exec i s = .next t) :
    MicroEffect i s t := by
  cases i with
  | uopBwr f =>
    refine sequenced_effect (fun ho => ?_) (fun _ => completeBwr_completion rfl) h
    cases ho; exact .issue (by simp [requestOf])
  | uopBrd f => exact execUopBrd_effect h
  | uopWait f => exact execUopWait_effect h
  | uopEnd f => exact execUopEnd_effect h
  | uopCommit f =>
    refine sequenced_effect (fun ho => ?_) (fun p hc => absurd hc (noResponseRule_ne_next p _ _)) h
    cases ho; exact .commit rfl
  | rsvdUop | rsvdB17 => cases h
  | hwCmdInit | hwCmdMeasure | hwCmdRelease | hwCmdOther | hrCmd | hrStatus | hwStatus | hwSel | hrSel | hrSample
  | hwSample | hrRsvd | hwRsvd => cases hi

/-- What SEQ fetches is a micro-operation, whatever the ROM holds. -/
theorem fetched_space (s : State) : (fetched s).space = .rom := by
  simp only [fetched, decodeMicro]
  repeat' split
  all_goals rfl

/-! ## Steps -/

/-- What a step does, by the agent that takes it (R7). An agent that is not enabled lets its event pass (log 3). -/
inductive StepEffect (s : State) : State → Prop
  | host {w : HWord} {t : State} (he : s.nextEvent = .host w) (ht : HostEffect s.takeEvent t) : StepEffect s t
  | seq {t : State} (he : s.nextEvent = .seq) (hb : s.busy = true) (hx : s.xact = .idle) (hr : s.xresp = none)
      (ht : OwnEffect (fetched s) s.takeEvent t) : StepEffect s t
  | seqPass (he : s.nextEvent = .seq) (hd : s.busy = false ∨ s.xact ≠ .idle) : StepEffect s s.takeEvent
  /-- SEQ finds a response left at the port, which the invariant excludes. -/
  | seqDiscard (he : s.nextEvent = .seq) (hr : s.xresp ≠ none) : StepEffect s s.takeEvent.discardResponse
  | xport {a : Answer} {r : Request} {t : State} (he : s.nextEvent = .xport a) (hx : s.xact = .out r)
      (ht : Completion (fetched s) (responseTo r a) s.takeEvent.takeResponse t) : StepEffect s t
  | xportPass {a : Answer} (he : s.nextEvent = .xport a) (hx : s.xact = .idle) : StepEffect s s.takeEvent
  | tick (he : s.nextEvent = .tick) : StepEffect s s.takeEvent.tick
  | reset (he : s.nextEvent = .reset) : StepEffect s s.takeEvent.resetBlock

theorem fetched_takeEvent (s : State) : fetched s.takeEvent = fetched s := fetched_congr (by simp) (by simp)

theorem seqStep_effect {s t : State} (he : s.nextEvent = .seq) (h : seqStep s.takeEvent = .next t) :
    StepEffect s t := by
  obtain ⟨hb, hx, hexec⟩ | ⟨hd, ht⟩ := seqStep_cases h
  · rw [fetched_takeEvent] at hexec
    cases exec_microEffect (fetched_space s) hexec.symm with
    | own _ hr ht =>
      exact .seq he (by simpa using hb) (by simpa using hx) (by simpa using hr) ht
    | discarded _ hr => exact .seqDiscard he (by simpa using hr)
    | blocked hout => rw [hx] at hout; cases hout
    | completed hout => rw [hx] at hout; cases hout
  · cases ht; exact .seqPass he (by simpa using hd)

theorem xportStep_effect {s t : State} {a : Answer} (he : s.nextEvent = .xport a)
    (h : xportStep a s.takeEvent = .next t) : StepEffect s t := by
  obtain ⟨hx, ht⟩ | ⟨r, hx, hexec⟩ := xportStep_cases h
  · cases ht; exact .xportPass he (by simpa using hx)
  · rw [fetched_takeEvent] at hexec
    cases exec_microEffect (fetched_space s) hexec.symm with
    | own hidle => rw [State.latchResponse_xact, hx] at hidle; cases hidle
    | discarded hidle => rw [State.latchResponse_xact, hx] at hidle; cases hidle
    | blocked _ hnone => cases hnone
    | completed _ hp ht => cases hp; exact .xport he (by simpa using hx) ht

/-- Every step that goes on has one of the effects listed. -/
theorem step_effect {s t : State} (h : step s = .next t) : StepEffect s t := by
  obtain ⟨w, he, hw⟩ | ⟨he, hseq⟩ | ⟨a, he, hx⟩ | ⟨he, rfl⟩ | ⟨he, rfl⟩ := step_cases h
  · exact .host he (hostStep_effect hw)
  · exact seqStep_effect he hseq
  · exact xportStep_effect he hx
  · exact .tick he
  · exact .reset he

/-! ## What the effects leave unchanged -/

/-- No host access touches the transport port, the timer, the banks, VALID, the parameters, the ROM or the tape. -/
theorem HostEffect.frame {s t : State} (h : HostEffect s t) :
    t.xact = s.xact ∧ t.xresp = s.xresp ∧ t.tarmed = s.tarmed ∧ t.tcnt = s.tcnt ∧ t.staging = s.staging ∧
    t.committed = s.committed ∧ t.valid = s.valid ∧ t.cfg = s.cfg ∧ t.rom = s.rom ∧ t.sched = s.sched ∧
    t.draws = s.draws := by
  cases h <;> simp

theorem OwnEffect.rom_cfg {i : Instr} {s t : State} (h : OwnEffect i s t) : t.rom = s.rom ∧ t.cfg = s.cfg := by
  cases h <;> simp

/-- A response changes neither the committed bank, VALID, STATE nor BUS_OWN, whatever it is. -/
theorem Completion.frame {i : Instr} {p : Response} {s t : State} (h : Completion i p s t) :
    t.rom = s.rom ∧ t.cfg = s.cfg ∧ t.committed = s.committed ∧ t.valid = s.valid ∧ t.state = s.state ∧
    t.busOwn = s.busOwn := by
  cases h <;> simp

end Sys2Proof.Machine

/-! # The invariant under each effect (10_state.md R32 to R43) -/

namespace Sys2Proof.Machine

/-! ## Where the micro-operations stand in a running program (R104) -/

/-- Where SEQ stands in a running program, and what it finds there (R104, R105). -/
inductive ProgramPoint (s : State) : Prop
  | initBody (hs : s.state = .initializing) (hu : s.upc.toNat < 0x04)
      (hk : (fetched s).kind = .write ∨ (fetched s).kind = .wait)
  | initEnd (hs : s.state = .initializing) (hu : s.upc = 0x04) (hf : fetched s = .uopEnd ⟨0, 0, 0, 2⟩)
  | initAbort (hs : s.state = .initializing) (hu : s.upc = iAbort) (hf : fetched s = .uopEnd ⟨0, 0, 0, 4⟩)
  | measBody (hs : s.state = .measuring) (hlo : 0x05 ≤ s.upc.toNat) (hhi : s.upc.toNat < 0x10)
      (hk : (fetched s).kind = .write ∨ (fetched s).kind = .read ∨ (fetched s).kind = .wait)
  | measCommit (hs : s.state = .measuring) (hu : s.upc = 0x10) (hk : (fetched s).kind = .commit)
  /-- The settle WAITs after COMMIT and in the abort tail. -/
  | measTail (hs : s.state = .measuring) (hu : s.upc = 0x11 ∨ s.upc = mAbort) (hk : (fetched s).kind = .wait)
  | measEnd (hs : s.state = .measuring) (hu : s.upc = 0x12 ∨ s.upc = 0x14) (hf : fetched s = .uopEnd ⟨0, 0, 0, 2⟩)

/-- The ROM listing, read at the addresses the invariant allows. -/
theorem State.Inv.programPoint {s : State} (h : s.Inv) (hb : s.busy = true) : ProgramPoint s := by
  have hf := fetched_built h.built
  rcases busy_states hb with hs | hs
  · rcases upc_initializing h hs with hu | hu | hu | hu | hu | hu <;> rw [hu] at hf
    iterate 4 exact .initBody hs (by simp [hu]) (by simp [hf, listed])
    · exact .initEnd hs hu hf
    · exact .initAbort hs hu hf
  · rcases upc_measuring h hs with
      hu | hu | hu | hu | hu | hu | hu | hu | hu | hu | hu | hu | hu | hu | hu | hu <;> rw [hu] at hf
    iterate 11 exact .measBody hs (by simp [hu]) (by simp [hu]) (by simp [hf, listed])
    · exact .measCommit hs hu (congrArg Instr.kind hf)
    · exact .measTail hs (.inl hu) (congrArg Instr.kind hf)
    · exact .measEnd hs (.inl hu) hf
    · exact .measTail hs (.inr hu) (congrArg Instr.kind hf)
    · exact .measEnd hs (.inr hu) hf

/-- Where SEQ finds an END, and the state it ends in (R189, R190, R244). -/
theorem State.Inv.end_cases {s : State} (h : s.Inv) (hb : s.busy = true) {f : UFields} {st : BlockState}
    (hf : fetched s = .uopEnd f) (hst : endState f = some st) :
    (s.state = .initializing ∧ s.upc = 0x04 ∧ st = .ready) ∨
    (s.state = .initializing ∧ s.upc = iAbort ∧ st = .failed) ∨
    (s.state = .measuring ∧ (s.upc = 0x12 ∨ s.upc = 0x14) ∧ st = .ready) := by
  have hk : (fetched s).kind = .endProgram := congrArg Instr.kind hf
  cases h.programPoint hb with
  | initEnd hs hu hf' => cases hf'.symm.trans hf; cases hst; exact .inl ⟨hs, hu, rfl⟩
  | initAbort hs hu hf' => cases hf'.symm.trans hf; cases hst; exact .inr (.inl ⟨hs, hu, rfl⟩)
  | measEnd hs hu hf' => cases hf'.symm.trans hf; cases hst; exact .inr (.inr ⟨hs, hu, rfl⟩)
  | initBody | measBody | measCommit | measTail => simp_all

/-- COMMIT and BRD stand in the MEASURE program only, so a wrong byte count never ends an INIT. -/
theorem State.Inv.measuring_of_kind {s : State} (h : s.Inv) (hb : s.busy = true)
    (hk : (fetched s).kind = .commit ∨ (fetched s).kind = .read) : s.state = .measuring := by
  cases h.programPoint hb with
  | initBody _ _ hbody => rcases hbody with hbody | hbody <;> simp [hbody] at hk
  | initEnd _ _ hf | initAbort _ _ hf => simp [hf] at hk
  | measBody hs | measCommit hs | measTail hs | measEnd hs => exact hs

/-! ## Nothing of a micro-operation in progress -/

/-- No phase, no request and no count of a micro-operation is in progress: where UPC can move without R33 to R35 speaking of
the micro-operation it leaves. -/
structure State.AtRest (s : State) : Prop where
  phase : s.brdPh = false
  xact : s.xact = .idle
  tarmed : s.tarmed = false
  tcnt : s.tcnt = 0

theorem State.Inv.atRest_of_not_busy {s : State} (h : s.Inv) (hb : s.busy = false) : s.AtRest := by
  obtain ⟨hx, ht, hc, hp, -⟩ := quiet_when_not_busy h hb
  exact ⟨hp, hx, ht, hc⟩

/-- Before its own step, a micro-operation that is neither BRD nor WAIT has nothing in progress. -/
theorem State.Inv.atRest {s : State} (h : s.Inv) (hx : s.xact = .idle) (hr : (fetched s).kind ≠ .read)
    (hw : (fetched s).kind ≠ .wait) : s.AtRest := by
  have ht : s.tarmed = false := Bool.eq_false_iff.mpr fun ht => hw (h.tarmed ht).2
  exact ⟨Bool.eq_false_iff.mpr fun hp => hr (h.phase hp), hx, ht, h.tcnt.2 ht⟩

/-- With nothing in progress the clauses on BRD_PH, XACT, TARMED and TCNT hold wherever UPC stands. -/
theorem State.AtRest.inv {t : State} (q : t.AtRest) (built : t.built) (busOwn : t.busOwn = t.state.holdsBus)
    (upc : upcInProgram t.state t.upc) (unset : t.valid = false → t.committed = Bank.zero) (valid : validFits t)
    (lastErr : lastErrFits t) (xresp : t.xresp = none) : t.Inv where
  built := built
  busOwn := busOwn
  upc := upc
  phase hp := by rw [q.phase] at hp; cases hp
  xact r hx := by rw [q.xact] at hx; cases hx
  tarmed ht := by rw [q.tarmed] at ht; cases ht
  tcnt := ⟨q.tcnt ▸ Nat.two_pow_pos _, fun _ => q.tcnt⟩
  unset := unset
  valid := valid
  lastErr := lastErr
  xresp := xresp

/-! ## Effects that leave UPC and STATE as they are -/

/-- The invariant says nothing about the staging bank, CMD_REJ, SEL, the read data, the tape and the draw counter. -/
theorem State.Inv.of_unread {s : State} (h : s.Inv) (b : Bank) (rej : Bool) (c : BitVec 2) (v : Option HData)
    (es : List Event) (n : Nat) :
    { s with staging := b, cmdRej := rej, sel := c, rdata := v, sched := es, draws := n : State }.Inv :=
  { h with }

theorem setRdata_inv {s : State} (h : s.Inv) (v : Option HData) : (s.setRdata v).Inv := h.of_unread _ _ _ _ _ _

theorem setSel_inv {s : State} (h : s.Inv) (c : BitVec 2) : (s.setSel c).Inv := h.of_unread _ _ _ _ _ _

theorem reject_inv {s : State} (h : s.Inv) : s.reject.Inv := h.of_unread _ _ _ _ _ _

theorem stageValue_inv {s : State} (h : s.Inv) (slot : BitVec 2) (v : HData) : (s.stageValue slot v).Inv :=
  h.of_unread _ _ _ _ _ _

theorem takeResponse_inv {s : State} (h : s.Inv) : s.takeResponse.Inv := { h with xact := nofun, xresp := rfl }

/-- The request made is that of the micro-operation at UPC (R34). -/
theorem issue_inv {s : State} (h : s.Inv) (hb : s.busy = true) {r : Request}
    (hr : requestOf s.cfg (fetched s) s.brdPh = some r) : (s.issue r).Inv :=
  { h with xact := fun r' hx => by cases hx; exact ⟨hb, hr⟩ }

theorem setPhase_inv {s : State} (h : s.Inv) (hx : s.xact = .idle) (b : Bool) (hk : (fetched s).kind = .read) :
    (s.setPhase b).Inv :=
  { h with
    phase := fun _ => hk
    xact := fun r hr => by rw [State.setPhase_xact, hx] at hr; cases hr }

/-- The delays fit TCNT (R10, R35). -/
theorem delayOf_lt {c : Config} (hc : c.wf = true) {f : UFields} {n : Nat} (hn : delayOf c f = some n) :
    n < 2 ^ c.timerW := by
  obtain ⟨hs, hi⟩ := max_lt_iff.mp (Config.wf_timer hc)
  unfold delayOf at hn
  split at hn
  · cases hn; exact hs
  · split at hn <;> cases hn; exact hi

theorem armTimer_inv {s : State} (h : s.Inv) (hb : s.busy = true) {f : UFields} {n : Nat} (hf : fetched s = .uopWait f)
    (hn : delayOf s.cfg f = some n) : (s.armTimer n).Inv :=
  { h with
    tarmed := fun _ => ⟨hb, congrArg Instr.kind hf⟩
    tcnt := ⟨delayOf_lt h.built.1 hn, nofun⟩ }

theorem disarmTimer_inv {s : State} (h : s.Inv) (hc : s.tcnt = 0) : s.disarmTimer.Inv :=
  { h with
    tarmed := nofun
    tcnt := ⟨h.tcnt.1, fun _ => hc⟩ }

theorem tick_inv {s : State} (h : s.Inv) : s.tick.Inv :=
  { h with
    tcnt := by
      have ⟨hlt, hz⟩ := h.tcnt
      rw [State.tick_tcnt, State.tick_cfg, State.tick_tarmed]
      cases ht : s.tarmed with
      | false => exact ⟨hlt, fun _ => hz ht⟩
      | true => exact ⟨Nat.lt_of_le_of_lt (Nat.sub_le _ _) hlt, nofun⟩ }

/-- COMMIT runs in a MEASURE only, where VALID may be set. -/
theorem commitStaging_inv {s : State} (h : s.Inv) (hs : s.state = .measuring) : s.commitStaging.Inv :=
  { h with
    unset := nofun
    valid := by simp [validFits, hs] }

/-! ## Effects that move UPC or STATE -/

/-- The address after a micro-operation that is no END is in the same straight line (R104), and VALID and LAST_ERR agree
with it; a COMMIT has set VALID by then. -/
theorem State.Inv.retire_fits {s : State} (h : s.Inv) (hb : s.busy = true) (hk : (fetched s).kind ≠ .endProgram)
    (hv : (fetched s).kind = .commit → s.valid = true) :
    upcInProgram s.state (s.upc + 1) ∧ validFits s.retire ∧ lastErrFits s.retire := by
  have hvalid := h.valid
  have herr := h.lastErr
  cases h.programPoint hb with
  | initEnd _ _ hf | initAbort _ _ hf | measEnd _ _ hf => exact absurd (congrArg Instr.kind hf) hk
  | initBody hs hu =>
    simp only [upcInProgram, validFits, lastErrFits, State.retire_state, State.retire_valid, hs] at hvalid herr ⊢
    have hcur : s.upc ≠ iAbort := by unfold iAbort; bv_omega
    have hnew : s.upc + 1 ≠ iAbort := by unfold iAbort; bv_omega
    exact ⟨.inl (by bv_omega), hvalid, (herr.trans (if_neg hcur)).trans (if_neg hnew).symm⟩
  | measBody hs hlo hhi =>
    simp only [upcInProgram, validFits, lastErrFits, State.retire_state, State.retire_upc, hs] at herr ⊢
    exact ⟨by bv_omega, fun hu => by bv_omega, herr.trans (by unfold mAbort; bv_omega)⟩
  | measCommit hs hu hc => simp_all [upcInProgram, validFits, lastErrFits, mAbort]
  | measTail hs hu => rcases hu with hu | hu <;> simp_all [upcInProgram, validFits, lastErrFits, mAbort]

theorem retire_inv {s : State} (h : s.Inv) (q : s.AtRest) (hb : s.busy = true)
    (hk : (fetched s).kind ≠ .endProgram) (hv : (fetched s).kind = .commit → s.valid = true) : s.retire.Inv := by
  obtain ⟨hupc, hvalid, herr⟩ := h.retire_fits hb hk hv
  exact State.AtRest.inv ⟨q.phase, q.xact, q.tarmed, q.tcnt⟩ h.built h.busOwn hupc h.unset hvalid herr h.xresp

/-- An error sends UPC to the abort tail of the running program (R163). -/
theorem abort_inv {s : State} (h : s.Inv) (hx : s.xact = .idle) (ht : s.tarmed = false) (hb : s.busy = true)
    {code : ErrCode} (hcode : code ≠ .noError) (hi : s.state = .initializing → code = .busError) :
    (s.abort code).Inv := by
  have hvalid := h.valid
  refine State.AtRest.inv ⟨rfl, hx, ht, h.tcnt.2 ht⟩ h.built h.busOwn ?upc h.unset ?valid ?lastErr h.xresp
  all_goals rcases abortTarget_busy s hb with ⟨hs, hu⟩ | ⟨hs, hu⟩
  case upc.inl => simp [hs, hu, upcInProgram, mAbort]
  case upc.inr => simp [hs, hu, upcInProgram]
  case valid.inl => simp [validFits, hs, hu, mAbort]
  case valid.inr => simpa [validFits, hs] using hvalid
  case lastErr.inl => simp [lastErrFits, hs, hu, hcode]
  case lastErr.inr => simp [lastErrFits, hs, hu, hi hs]

/-- END into READY says nothing new of VALID and LAST_ERR; END into FAILED comes from the abort tail of INIT, before any
sample and with BUS_ERROR recorded. -/
theorem endProgram_inv {s : State} (h : s.Inv) (q : s.AtRest) (hb : s.busy = true) {f : UFields} {st : BlockState}
    (hf : fetched s = .uopEnd f) (hst : endState f = some st) : (s.endProgram st).Inv := by
  have q' : (s.endProgram st).AtRest := ⟨q.phase, q.xact, q.tarmed, q.tcnt⟩
  rcases h.end_cases hb hf hst with ⟨hs, -, rfl⟩ | ⟨hs, hu, rfl⟩ | ⟨hs, -, rfl⟩
  · have hown : s.busOwn = true := by rw [h.busOwn, hs]; rfl
    exact q'.inv h.built hown rfl h.unset trivial trivial h.xresp
  · have hvalid : s.valid = false := by simpa [validFits, hs] using h.valid
    have herr : s.lastErr = .busError := by simpa [lastErrFits, hs, hu] using h.lastErr
    exact q'.inv h.built rfl rfl h.unset hvalid herr h.xresp
  · have hown : s.busOwn = true := by rw [h.busOwn, hs]; rfl
    exact q'.inv h.built hown rfl h.unset trivial trivial h.xresp

theorem resetBlock_inv {s : State} (h : s.Inv) : s.resetBlock.Inv :=
  State.AtRest.inv ⟨rfl, rfl, rfl, rfl⟩ h.built rfl rfl (fun _ => rfl) rfl rfl rfl

/-! ## Every step -/

theorem HostEffect.inv {s t : State} (h : s.Inv) (ht : HostEffect s t) : t.Inv := by
  cases ht with
  | access v => exact setRdata_inv h v
  | select c => exact setRdata_inv (setSel_inv h c) none
  | reject => exact setRdata_inv (reject_inv h) none
  | init hs =>
    have q := h.atRest_of_not_busy (by simp [State.busy, hs, BlockState.busy])
    have hvalid : s.valid = false := by simpa [validFits, hs] using h.valid
    refine setRdata_inv ?_ none
    exact State.AtRest.inv ⟨rfl, q.xact, q.tarmed, q.tcnt⟩ h.built rfl (.inl (Nat.zero_le _)) h.unset hvalid rfl h.xresp
  | measure hs =>
    have q := h.atRest_of_not_busy (by simp [State.busy, hs, BlockState.busy])
    have hown : s.busOwn = true := by rw [h.busOwn, hs]; rfl
    refine setRdata_inv ?_ none
    exact State.AtRest.inv ⟨rfl, q.xact, q.tarmed, q.tcnt⟩ h.built hown (by simp [upcInProgram, measEntry])
      h.unset (by simp [validFits, measEntry]) (by simp [lastErrFits, measEntry, mAbort]) h.xresp
  | release hs =>
    have hb : s.busy = false := by rcases hs with hs | hs | hs <;> simp [State.busy, hs, BlockState.busy]
    have q := h.atRest_of_not_busy hb
    obtain ⟨-, -, -, -, hu⟩ := quiet_when_not_busy h hb
    refine setRdata_inv ?_ none
    exact State.AtRest.inv ⟨q.phase, q.xact, q.tarmed, q.tcnt⟩ h.built rfl hu h.unset trivial rfl h.xresp

theorem OwnEffect.inv {s t : State} (h : s.Inv) (hb : s.busy = true) (hx : s.xact = .idle)
    (ht : OwnEffect (fetched s) s t) : t.Inv := by
  cases ht with
  | issue hr =>
    refine issue_inv h hb ?_
    cases hp : s.brdPh with
    | false => simpa [hp] using hr
    | true => simpa [hp, h.phase hp] using hr
  | arm hi hn _ => exact armTimer_inv h hb hi hn
  | counting => exact h
  | expire hi _ hc =>
    have hp : s.brdPh = false := Bool.eq_false_iff.mpr fun hp => by simp [h.phase hp] at hi
    exact retire_inv (disarmTimer_inv h hc) ⟨hp, hx, rfl, hc⟩ hb (fun hk => by cases hi.symm.trans hk)
      (fun hk => by cases hi.symm.trans hk)
  | commit hi =>
    have q := h.atRest hx (by simp [hi]) (by simp [hi])
    exact retire_inv (commitStaging_inv h (h.measuring_of_kind hb (.inl hi))) ⟨q.phase, q.xact, q.tarmed, q.tcnt⟩ hb
      (fun hk => by cases hi.symm.trans hk) (fun _ => rfl)
  | finish hi hst =>
    exact endProgram_inv h (h.atRest hx (by simp [hi]) (by simp [hi])) hb hi hst

theorem Completion.inv {p : Response} {s t : State} (h : s.Inv) (hb : s.busy = true) (hx : s.xact = .idle)
    (ht : Completion (fetched s) p s t) : t.Inv := by
  have unarmed : (fetched s).kind ≠ .wait → s.tarmed = false := fun hw =>
    Bool.eq_false_iff.mpr fun ht => hw (h.tarmed ht).2
  cases ht with
  | written hi => exact retire_inv h (h.atRest hx (by simp [hi]) (by simp [hi])) hb (by simp [hi]) (by simp [hi])
  | pointed hi => exact setPhase_inv h hx true hi
  | @received f _ v hi =>
    have hk : (fetched s).kind = .read := congrArg Instr.kind hi
    have ha := unarmed (by simp [hk])
    exact retire_inv (setPhase_inv (stageValue_inv h f.a v) hx false hk) ⟨rfl, hx, ha, h.tcnt.2 ha⟩ hb
      (fun he => by cases hk.symm.trans he) (fun hc => by cases hk.symm.trans hc)
  | failed hi => exact abort_inv h hx (unarmed (by rcases hi with hi | hi <;> simp [hi])) hb nofun fun _ => rfl
  | malformed hi =>
    refine abort_inv h hx (unarmed (by simp [hi])) hb nofun fun hs => ?_
    cases hs.symm.trans (h.measuring_of_kind hb (.inr (congrArg Instr.kind hi)))

theorem StepEffect.inv {s t : State} (h : s.Inv) (ht : StepEffect s t) : t.Inv := by
  have h0 : s.takeEvent.Inv := takeEvent_inv h
  cases ht with
  | host _ ht => exact ht.inv h0
  | seq _ hb hx _ ht => exact OwnEffect.inv h0 (by simpa using hb) (by simpa using hx) (by rwa [fetched_takeEvent])
  | xport _ hx ht =>
    have hb : s.busy = true := (h.xact _ hx).1
    exact Completion.inv (takeResponse_inv h0) (by simpa using hb) rfl ((fetched_takeEvent s).symm ▸ ht)
  | seqPass | xportPass => exact h0
  | seqDiscard _ hr => exact absurd h.xresp hr
  | tick => exact tick_inv h0
  | reset => exact resetBlock_inv h0

/-- Settles O11: every step has one of the effects of `StepEffect`, and each of them keeps the invariant. -/
theorem everyStepKeepsTheInvariant : Obligations.EveryStepKeepsTheInvariant :=
  fun _ _ h hstep => (step_effect hstep).inv h

end Sys2Proof.Machine

/-! # What no step changes, and what one step can change -/

namespace Sys2Proof.Machine

/-! ## The command words -/

/-- A CMD write decodes by D[7:0]; D[15:8] is carried along (R92, R93). -/
theorem decodeHost_command (hi code : Byte) :
    decodeHost (hostWord true 0x0 (hi ++ code)) =
      if code = 0x01 then .hwCmdInit hi
      else if code = 0x02 then .hwCmdMeasure hi
      else if code = 0x03 then .hwCmdRelease hi
      else .hwCmdOther (hi ++ code) := by
  simp only [decodeHost, hostWord_write, hostWord_offset, hostWord_data, hostWord_code, hostWord_ignored]
  rfl

theorem command_accepted (s : State) (act : State → State) :
    command s true act = .next ((act s).clearFlags.setRdata none) := rfl

/-- Settles O18: each accepted command is its action with the flags cleared. -/
theorem acceptedCommandClearsTheFlags : Obligations.AcceptedCommandClearsTheFlags := by
  intro s hi code rest htape hacc
  rw [step_host htape, decodeHost_command]
  rcases hacc with ⟨rfl, hs⟩ | ⟨rfl, hs⟩ | ⟨rfl, hs⟩
  · simp [exec, execHwCmdInit, hs, command_accepted]
  · simp [exec, execHwCmdMeasure, hs, command_accepted]
  · have hr : releasable s.state = true := (releasable_iff _).mpr hs
    simp [exec, execHwCmdRelease, hr, command_accepted]

/-! ## Frames of a step -/

/-- Settles O24: no host access has an effect outside its frame. -/
theorem hostStepFrame : Obligations.HostStepFrame := by
  intro s t w rest htape hstep
  rw [step_host htape] at hstep
  exact (hostStep_effect hstep).frame

/-- No effect of any agent writes the ROM or the parameters. -/
theorem StepEffect.rom_cfg {s t : State} (h : StepEffect s t) : t.rom = s.rom ∧ t.cfg = s.cfg := by
  cases h with
  | host _ ht =>
    obtain ⟨-, -, -, -, -, -, -, hcfg, hrom, -⟩ := ht.frame
    simp [hcfg, hrom]
  | seq _ _ _ _ ht => simpa using ht.rom_cfg
  | xport _ _ ht =>
    obtain ⟨hrom, hcfg, -⟩ := ht.frame
    simp [hcfg, hrom]
  | seqPass | seqDiscard | xportPass | tick | reset => simp

/-- Settles O44. -/
theorem romAndParametersNeverChange : Obligations.RomAndParametersNeverChange :=
  fun _ _ hstep => (step_effect hstep).rom_cfg

/-- A micro-operation's own step keeps the committed bank and VALID, or is a COMMIT that publishes the staging bank. -/
theorem OwnEffect.committed_cases {i : Instr} {s t : State} (h : OwnEffect i s t) :
    (t.committed = s.committed ∧ t.valid = s.valid) ∨
    (i.kind = .commit ∧ t.committed = s.staging ∧ t.valid = true) := by
  cases h with
  | commit hi => exact .inr ⟨hi, rfl, rfl⟩
  | issue | arm | counting | expire | finish => exact .inl ⟨rfl, rfl⟩

/-- Settles O45: of the effects a step can have, only COMMIT and RESET write the committed bank or VALID. -/
theorem committedBankChangesOnlyAtCommit : Obligations.CommittedBankChangesOnlyAtCommit := by
  intro s t hstep
  cases step_effect hstep with
  | host _ ht =>
    obtain ⟨-, -, -, -, -, hcommitted, hvalid, -⟩ := ht.frame
    exact .inl (by simp [hcommitted, hvalid])
  | seq he hb hx _ ht =>
    obtain ⟨hcommitted, hvalid⟩ | ⟨hi, hcommitted, hvalid⟩ := ht.committed_cases
    · exact .inl (by simp [hcommitted, hvalid])
    · exact .inr (.inl ⟨he, hb, hx, hi, by simpa using hcommitted, hvalid⟩)
  | xport _ _ ht =>
    obtain ⟨-, -, hcommitted, hvalid, -⟩ := ht.frame
    exact .inl (by simp [hcommitted, hvalid])
  | seqPass | seqDiscard | xportPass | tick => exact .inl (by simp)
  | reset he => exact .inr (.inr ⟨he, rfl, rfl⟩)

/-! ## The transitions of STATE -/

/-- A host access keeps STATE and BUS_OWN, or is an accepted command. -/
theorem HostEffect.transition {s t : State} (h : HostEffect s t) :
    (t.state = s.state ∧ t.busOwn = s.busOwn) ∨
    (s.state = .uninit ∧ t.state = .initializing ∧ t.busOwn = true) ∨
    (s.state = .ready ∧ t.state = .measuring ∧ t.busOwn = s.busOwn) ∨
    ((s.state = .uninit ∨ s.state = .ready ∨ s.state = .failed) ∧ t.state = .closed ∧ t.busOwn = false) := by
  cases h with
  | access | select | reject => exact .inl ⟨rfl, rfl⟩
  | init hs => exact .inr (.inl ⟨hs, rfl, rfl⟩)
  | measure hs => exact .inr (.inr (.inl ⟨hs, rfl, rfl⟩))
  | release hs => exact .inr (.inr (.inr ⟨hs, rfl, rfl⟩))

/-- A micro-operation's own step keeps STATE and BUS_OWN, or is an END. -/
theorem OwnEffect.transition {i : Instr} {s t : State} (h : OwnEffect i s t) :
    (t.state = s.state ∧ t.busOwn = s.busOwn) ∨
    (∃ f st, i = .uopEnd f ∧ endState f = some st ∧ t = s.endProgram st) := by
  cases h with
  | finish hi hst => exact .inr ⟨_, _, hi, hst, rfl⟩
  | issue | arm | counting | expire | commit => exact .inl ⟨rfl, rfl⟩

/-- Settles O46: the commands and END are the only effects on STATE, and the invariant says where an END stands and what
BUS_OWN, VALID and LAST_ERR are there. -/
theorem onlyTheListedTransitionsExist : Obligations.OnlyTheListedTransitionsExist := by
  intro s t h hstep
  have hown := h.busOwn
  cases step_effect hstep with
  | host _ ht =>
    obtain hkeep | hinit | ⟨hs, ht⟩ | ⟨hs | hs | hs, ht⟩ := ht.transition <;> simp_all [BlockState.holdsBus]
  | seq _ hb _ _ ht =>
    obtain hkeep | ⟨f, st, hf, hst, rfl⟩ := ht.transition
    · exact .inl (by simpa using hkeep)
    · have hvalid := h.valid
      have herr := h.lastErr
      rcases h.end_cases hb hf hst with ⟨hs, hu, rfl⟩ | ⟨hs, hu, rfl⟩ | ⟨hs, hu | hu, rfl⟩ <;>
        simp_all [BlockState.holdsBus, validFits, lastErrFits, mAbort, iAbort]
  | xport _ _ ht =>
    obtain ⟨-, -, -, -, hstate, hbus⟩ := ht.frame
    exact .inl (by simp [hstate, hbus])
  | seqPass | seqDiscard | xportPass | tick => exact .inl (by simp)
  | reset he => exact .inr (.inl ⟨he, rfl, rfl⟩)

/-! ## What the host can observe -/

theorem command_withHidden {s u : State} {accepted : Bool} {act : State → State}
    (hact : ∃ u', act (s.withHidden u) = (act s).withHidden u') :
    ∃ t u', command s accepted act = .next t ∧ command (s.withHidden u) accepted act = .next (t.withHidden u') := by
  obtain ⟨u', hact⟩ := hact
  cases accepted with
  | false => exact ⟨_, u, rfl, rfl⟩
  | true => exact ⟨_, u', rfl, by rw [command_accepted, hact]; rfl⟩

/-- A host access reads no hidden field: with other values in them it does the same, up to the hidden fields. -/
theorem exec_withHidden {i : Instr} (hi : i.space = .host) (s u : State) :
    ∃ t u', exec i s = .next t ∧ exec i (s.withHidden u) = .next (t.withHidden u') := by
  cases i with
  | hwCmdInit ign => apply command_withHidden; exact ⟨u.startProgram .initializing initEntry, rfl⟩
  | hwCmdMeasure ign => apply command_withHidden; exact ⟨u.startProgram .measuring measEntry, rfl⟩
  | hwCmdRelease ign => apply command_withHidden; exact ⟨u, rfl⟩
  | hwCmdOther d => apply command_withHidden; exact ⟨u, rfl⟩
  | hrCmd | hrStatus | hwStatus | hwSel | hrSel | hrSample | hwSample | hrRsvd | hwRsvd => exact ⟨_, u, rfl, rfl⟩
  | uopEnd | uopBwr | uopBrd | uopWait | uopCommit | rsvdUop | rsvdB17 => cases hi

/-- Settles O29: the two runs execute one access on states that differ in hidden fields only. -/
theorem hiddenStateIsNotObservable : Obligations.HiddenStateIsNotObservable := by
  intro s u w rest htape
  have htape' : (s.withHidden u).sched = .host w :: rest := htape
  rw [step_host htape, step_host htape']
  obtain ⟨t, u', ht, ht'⟩ :=
    exec_withHidden (decodeHost_space w) { s with sched := rest, rdata := none } u
  exact ⟨t, t.withHidden u', ht, ht', rfl, rfl, rfl, rfl, rfl, rfl, rfl, rfl⟩

end Sys2Proof.Machine

/-! # Host reads (20_memory.md section 2) -/

namespace Sys2Proof.Machine

/-- The data a host read of offset `a` returns (R63). -/
def readData (s : State) (a : HAddr) : HData :=
  if a = 1 then s.statusWord
  else if a = 2 then s.sel.zeroExtend 16
  else if a = 3 then mux s.committed s.sel
  else 0x0000

/-- A host word with W = 0 is a read of its offset, whatever its D. -/
theorem exec_hostRead {w : HWord} (hw : w.getLsbD 20 = false) (s : State) :
    exec (decodeHost w) s = hostRead s (readData s (w.extractLsb' 16 4)) := by
  simp only [decodeHost, hw, Bool.false_eq_true, if_false, readData]
  generalize w.extractLsb' 16 4 = a
  by_cases hrsvd : 4 ≤ a.toNat
  · have h1 : a ≠ 1 := by bv_omega
    have h2 : a ≠ 2 := by bv_omega
    have h3 : a ≠ 3 := by bv_omega
    simp only [hrsvd, h1, h2, h3, if_true, if_false]; rfl
  · obtain rfl | rfl | rfl | rfl : a = 0 ∨ a = 1 ∨ a = 2 ∨ a = 3 := by bv_omega
    all_goals rfl

/-- A step whose event is a host read changes the read data port and the tape only. -/
theorem step_hostRead {s : State} {w : HWord} {rest : List Event} (htape : s.sched = .host w :: rest)
    (hw : w.getLsbD 20 = false) :
    step s = .next { s with sched := rest, rdata := some (readData s (w.extractLsb' 16 4)) } := by
  rw [step_host htape, exec_hostRead hw]; rfl

/-- Settles O26: a read returns `readData` of its offset, which depends neither on the tape nor on the read data port. -/
theorem hostReadsAreIdempotent : Obligations.HostReadsAreIdempotent := by
  intro s v w rest htape hv hw hoffset
  refine ⟨_, _, step_hostRead htape hv, step_hostRead rfl hw, ?_, nofun, rfl, rfl⟩
  rw [hoffset]; rfl

end Sys2Proof.Machine

/-! # The requests a running program owes (42_timing_fsm.md section 3) -/

namespace Sys2Proof.Machine

/-! ## The walk along the ROM -/

/-- The requests of one micro-operation, in the order it makes them: phase 0 first (R153, R156, R159). -/
def microRequests (c : Config) (i : Instr) : List Request :=
  (requestOf c i false).toList ++ (requestOf c i true).toList

/-- The walk stops at an END, which makes no request. -/
theorem requestsFrom_end {c : Config} {rom : Rom} {a : UAddr}
    (hk : (decodeMicro (romAt rom a)).kind = .endProgram) (fuel : Nat) : requestsFrom c rom fuel a = [] := by
  cases fuel with
  | zero => rfl
  | succ fuel =>
    rw [requestsFrom]
    split
    next hi => rw [hi] at hk; cases hk
    next hi => rw [hi] at hk; cases hk
    next => exact if_pos hk

/-- At any other micro-operation the walk takes its requests and goes on. -/
theorem requestsFrom_succ {c : Config} {rom : Rom} {a : UAddr}
    (hk : (decodeMicro (romAt rom a)).kind ≠ .endProgram) (fuel : Nat) :
    requestsFrom c rom (fuel + 1) a =
      microRequests c (decodeMicro (romAt rom a)) ++ requestsFrom c rom fuel (a + 1) := by
  rw [requestsFrom]
  cases hi : decodeMicro (romAt rom a) with
  | uopEnd f => exact absurd (congrArg Instr.kind hi) hk
  | _ => rfl

/-- In the ROM of R104 an address whose micro-operation is no END has one after it. -/
theorem succ_toNat_of_not_end {c : Config} {a : UAddr} (hk : (decodeMicro (romAt (romOf c) a)).kind ≠ .endProgram) :
    (a + 1).toNat = a.toNat + 1 := by
  have hlast : a.toNat ≠ 0x1F := fun ha => hk (by rw [decode_romOf, ha]; rfl)
  bv_omega

/-- The walk ends at 0x1F at the latest, so fuel beyond that address adds nothing. -/
theorem requestsFrom_fuel (c : Config) (fuel : Nat) (a : UAddr) (h : 0x1F < a.toNat + fuel) :
    requestsFrom c (romOf c) (fuel + 1) a = requestsFrom c (romOf c) fuel a := by
  induction fuel generalizing a with
  | zero => exact absurd a.isLt (by omega)
  | succ fuel ih =>
    by_cases hk : (decodeMicro (romAt (romOf c) a)).kind = .endProgram
    · rw [requestsFrom_end hk, requestsFrom_end hk]
    · have hnext := succ_toNat_of_not_end hk
      rw [requestsFrom_succ hk, requestsFrom_succ hk, ih (a + 1) (by omega)]

/-- With the ROM of R104 the requests from UPC on are the current micro-operation's, then those from UPC + 1 on. -/
theorem requestsFrom_upc {s : State} (h : s.built) (hk : (fetched s).kind ≠ .endProgram) :
    requestsFrom s.cfg s.rom romDepth s.upc =
      microRequests s.cfg (fetched s) ++ requestsFrom s.cfg s.rom romDepth (s.upc + 1) := by
  obtain ⟨-, hrom⟩ := h
  simp only [fetched, hrom] at hk ⊢
  have hnext := succ_toNat_of_not_end hk
  rw [requestsFrom_succ hk, ← requestsFrom_fuel _ 31 _ (by omega)]

/-- The request of a phase stands in the list at that phase. -/
theorem microRequests_getElem? {c : Config} {i : Instr} {ph : Bool} {r : Request} (h : requestOf c i ph = some r) :
    (microRequests c i)[ph.toNat]? = some r := by
  cases i with
  | uopBwr | uopBrd => cases ph <;> cases h <;> rfl
  | _ => cases h

/-- Only BWR and BRD make requests. -/
theorem kind_of_requestOf {c : Config} {i : Instr} {ph : Bool} {r : Request} (h : requestOf c i ph = some r) :
    i.kind = .write ∨ i.kind = .read := by
  cases i with
  | uopBwr => exact .inl rfl
  | uopBrd => exact .inr rfl
  | _ => cases h

theorem microRequests_eq_nil {c : Config} {i : Instr} (hw : i.kind ≠ .write) (hr : i.kind ≠ .read) :
    microRequests c i = [] := by
  have hnone (ph : Bool) : requestOf c i ph = none :=
    Option.eq_none_iff_forall_ne_some.mpr fun _ h => (kind_of_requestOf h).elim hw hr
  rw [microRequests, hnone, hnone]; rfl

/-- A BWR makes one request. -/
theorem microRequests_length_write {c : Config} {i : Instr} (hw : i.kind = .write) : (microRequests c i).length = 1 := by
  cases i with
  | uopBwr => rfl
  | _ => cases hw

/-- A BRD makes two. -/
theorem microRequests_length_read {c : Config} {i : Instr} (hr : i.kind = .read) : (microRequests c i).length = 2 := by
  cases i with
  | uopBrd => rfl
  | _ => cases hr

/-- An error of the running program leads to a tail that makes no request (R163, R164). -/
theorem requestsFrom_abortTarget {s : State} (hb : s.busy = true) :
    requestsFrom s.cfg (romOf s.cfg) romDepth s.abortTarget = [] := by
  rcases abortTarget_busy s hb with ⟨-, hu⟩ | ⟨-, hu⟩ <;> rw [hu]
  · have hwait : decodeMicro (romAt (romOf s.cfg) mAbort) = .uopWait ⟨0, 0, 0, 0⟩ := decode_romOf _ _
    rw [requestsFrom_succ (by simp [hwait]), hwait, requestsFrom_end (by rw [decode_romOf]; rfl)]; rfl
  · exact requestsFrom_end (by rw [decode_romOf]; rfl) _

/-! ## The requests owed in a state -/

/-- How many requests of the micro-operation at UPC are issued already. -/
def State.issued (s : State) : Nat := s.brdPh.toNat + (if s.xact = .idle then 0 else 1)

theorem remainingRequests_busy {s : State} (hb : s.busy = true) :
    remainingRequests s = (requestsFrom s.cfg s.rom romDepth s.upc).drop s.issued := by
  rw [remainingRequests, if_pos hb, State.issued]
  cases s.brdPh <;> rfl

theorem remainingRequests_not_busy {s : State} (hb : s.busy = false) : remainingRequests s = [] := by
  simp [remainingRequests, hb]

/-- The same program at the same point owes the same requests. -/
theorem remainingRequests_congr {s t : State} (hcfg : t.cfg = s.cfg) (hrom : t.rom = s.rom) (hstate : t.state = s.state)
    (hupc : t.upc = s.upc) (hissued : t.issued = s.issued) : remainingRequests t = remainingRequests s := by
  cases hb : s.busy with
  | false =>
    rw [remainingRequests_not_busy hb, remainingRequests_not_busy (by rwa [State.busy, hstate])]
  | true =>
    rw [remainingRequests_busy hb, remainingRequests_busy (by rwa [State.busy, hstate]), hcfg, hrom, hupc, hissued]

/-- Nothing is owed at an END. -/
theorem remainingRequests_end {s : State} (hk : (fetched s).kind = .endProgram) : remainingRequests s = [] := by
  rw [remainingRequests, requestsFrom_end hk, List.drop_nil, ite_self]

/-- A micro-operation that retires with all its requests issued leaves the rest of the program owed. -/
theorem remainingRequests_retire {s t : State} (h : s.built) (hb : s.busy = true)
    (hk : (fetched s).kind ≠ .endProgram) (hdone : s.issued = (microRequests s.cfg (fetched s)).length)
    (hcfg : t.cfg = s.cfg) (hrom : t.rom = s.rom) (hstate : t.state = s.state) (hupc : t.upc = s.upc + 1)
    (hph : t.brdPh = false) (hx : t.xact = .idle) : remainingRequests t = remainingRequests s := by
  have hnone : t.issued = 0 := by simp [State.issued, hph, hx]
  rw [remainingRequests_busy hb, requestsFrom_upc h hk, hdone, List.drop_left,
    remainingRequests_busy (by rwa [State.busy, hstate]), hcfg, hrom, hupc, hnone, List.drop_zero]

theorem requestIssued_same {s t : State} (hx : t.xact = s.xact) : requestIssued s t = none := by
  unfold requestIssued; split <;> simp_all

theorem requestIssued_out {s t : State} {r : Request} (hx : s.xact = .out r) : requestIssued s t = none := by
  unfold requestIssued; split <;> simp_all

/-! ## What a step does to the requests owed -/

/-- The request issued, if any, was the first one owed; the others still are. -/
def IssuesNext (s t : State) : Prop := (requestIssued s t).toList ++ remainingRequests t = remainingRequests s

/-- An error is recorded, and no request is owed any more (R163, R164). -/
def DropsRequests (s t : State) : Prop :=
  s.lastErr = .noError ∧ t.lastErr ≠ .noError ∧ requestIssued s t = none ∧ remainingRequests t = []

/-- A step that issues nothing and leaves the same requests owed. -/
theorem IssuesNext.of_none {s t : State} (hn : requestIssued s t = none)
    (hr : remainingRequests t = remainingRequests s) : IssuesNext s t := by
  rw [IssuesNext, hn]; exact hr

/-- A step that moves neither the program nor its request. -/
theorem IssuesNext.of_same {s t : State} (hcfg : t.cfg = s.cfg) (hrom : t.rom = s.rom) (hstate : t.state = s.state)
    (hupc : t.upc = s.upc) (hph : t.brdPh = s.brdPh) (hx : t.xact = s.xact) : IssuesNext s t :=
  .of_none (requestIssued_same hx)
    (remainingRequests_congr hcfg hrom hstate hupc (by rw [State.issued, State.issued, hph, hx]))

/-- Taking the event off the tape issues nothing and leaves the requests owed. -/
theorem issuesNext_takeEvent {s t : State} : IssuesNext s.takeEvent t ↔ IssuesNext s t := by
  have hr : remainingRequests s.takeEvent = remainingRequests s :=
    remainingRequests_congr (by simp) (by simp) (by simp) (by simp) (by simp [State.issued])
  simp [IssuesNext, requestIssued, hr]

theorem dropsRequests_takeEvent {s t : State} : DropsRequests s.takeEvent t ↔ DropsRequests s t := by
  simp [DropsRequests, requestIssued]

/-- While a program runs no command is accepted, so no host access moves it (R192). -/
theorem HostEffect.issuesNext {s t : State} (hb : s.busy = true) (ht : HostEffect s t) : IssuesNext s t := by
  cases ht with
  | access | select | reject => exact .of_same rfl rfl rfl rfl rfl rfl
  | init hs => simp [State.busy, hs, BlockState.busy] at hb
  | measure hs => simp [State.busy, hs, BlockState.busy] at hb
  | release hs => rcases hs with hs | hs | hs <;> simp [State.busy, hs, BlockState.busy] at hb

/-- In a state with the invariant only a BRD is in phase 1 (R33). -/
theorem State.Inv.phase_and_read {s : State} (h : s.Inv) : (s.brdPh && (fetched s).kind == .read) = s.brdPh := by
  cases hp : s.brdPh with
  | false => rfl
  | true => simp [h.phase hp]

/-- A BWR or BRD is no part of an abort tail, so no error is recorded there yet (R39). -/
theorem State.Inv.noError_of_kind {s : State} (h : s.Inv) (hb : s.busy = true)
    (hk : (fetched s).kind = .write ∨ (fetched s).kind = .read) : s.lastErr = .noError := by
  have herr := h.lastErr
  cases h.programPoint hb with
  | initBody hs hu =>
    have hbody : s.upc ≠ iAbort := by unfold iAbort; bv_omega
    simpa [lastErrFits, hs, hbody] using herr
  | measBody hs _ hhi =>
    rw [lastErrFits, hs] at herr
    exact herr.mpr (by unfold mAbort; bv_omega)
  | initEnd _ _ hf | initAbort _ _ hf | measEnd _ _ hf => simp [hf] at hk
  | measCommit _ _ hc | measTail _ _ hc => simp [hc] at hk

/-- Issuing the request of the current phase takes the first request owed. -/
theorem issue_issuesNext {s : State} (h : s.Inv) (hb : s.busy = true) (hx : s.xact = .idle) {r : Request}
    (hr : requestOf s.cfg (fetched s) s.brdPh = some r) : IssuesNext s (s.issue r) := by
  have hk : (fetched s).kind ≠ .endProgram := by rcases kind_of_requestOf hr with hk | hk <;> simp [hk]
  have hfirst : (requestsFrom s.cfg s.rom romDepth s.upc)[s.brdPh.toNat]? = some r := by
    have hmicro := microRequests_getElem? hr
    rw [requestsFrom_upc h.built hk, List.getElem?_append_left (List.getElem?_eq_some_iff.mp hmicro).1, hmicro]
  have hbefore : s.issued = s.brdPh.toNat := by simp [State.issued, hx]
  have hafter : (s.issue r).issued = s.brdPh.toNat + 1 := by simp [State.issued]
  have hnew : requestIssued s (s.issue r) = some r := by simp [requestIssued, hx]
  rw [IssuesNext, hnew, remainingRequests_busy hb, remainingRequests_busy (s := s.issue r) hb, hbefore, hafter,
    List.drop_eq_getElem?_toList_append (i := s.brdPh.toNat), hfirst]
  rfl

/-- A micro-operation's own step issues the next request owed, or issues none and leaves the same ones owed. -/
theorem OwnEffect.issuesNext {s t : State} (h : s.Inv) (hb : s.busy = true) (hx : s.xact = .idle)
    (ht : OwnEffect (fetched s) s t) : IssuesNext s t := by
  cases ht with
  | issue hr => exact issue_issuesNext h hb hx (h.phase_and_read ▸ hr)
  | arm | counting => exact .of_same rfl rfl rfl rfl rfl rfl
  | expire hk | commit hk =>
    have hph : s.brdPh = false := Bool.eq_false_iff.mpr fun hp => by simp [h.phase hp] at hk
    have hnil : microRequests s.cfg (fetched s) = [] := microRequests_eq_nil (by simp [hk]) (by simp [hk])
    exact .of_none (requestIssued_same rfl) (remainingRequests_retire h.built hb (by simp [hk])
      (by simp [State.issued, hph, hx, hnil]) rfl rfl rfl rfl hph hx)
  | @finish _ st hf hst =>
    refine .of_none (requestIssued_same rfl) ?_
    have hidle : (s.endProgram st).busy = false := by
      rcases h.end_cases hb hf hst with ⟨-, -, rfl⟩ | ⟨-, -, rfl⟩ | ⟨-, -, rfl⟩ <;> rfl
    rw [remainingRequests_end (congrArg Instr.kind hf), remainingRequests_not_busy hidle]

/-- An error ends the requests of the program: what is left is its abort tail. -/
theorem abort_dropsRequests {s : State} (h : s.Inv) {r : Request} (hx : s.xact = .out r)
    (hk : (fetched s).kind = .write ∨ (fetched s).kind = .read) {code : ErrCode} (hcode : code ≠ .noError) :
    DropsRequests s (s.takeResponse.abort code) := by
  have hb := (h.xact r hx).1
  refine ⟨h.noError_of_kind hb hk, hcode, requestIssued_out hx, ?_⟩
  have htail : requestsFrom s.cfg s.rom romDepth s.abortTarget = [] := by
    rw [h.built.2]; exact requestsFrom_abortTarget hb
  rw [remainingRequests_busy (s := s.takeResponse.abort code) hb]
  exact (congrArg _ htail).trans List.drop_nil

/-- A response leaves the requests owed as they are, or ends them with an error. -/
theorem Completion.issuesNext_or_dropsRequests {p : Response} {s t : State} (h : s.Inv) {r : Request}
    (hx : s.xact = .out r) (ht : Completion (fetched s) p s.takeResponse t) :
    IssuesNext s t ∨ DropsRequests s t := by
  have hb := (h.xact r hx).1
  cases ht with
  | written hk =>
    have hph : s.brdPh = false := Bool.eq_false_iff.mpr fun hp => by simp [h.phase hp] at hk
    exact .inl (.of_none (requestIssued_out hx) (remainingRequests_retire h.built hb (by simp [hk])
      (by simp [State.issued, hph, hx, microRequests_length_write hk]) rfl rfl rfl rfl hph rfl))
  | pointed _ hph =>
    have hph : s.brdPh = false := hph
    exact .inl (.of_none (requestIssued_out hx)
      (remainingRequests_congr rfl rfl rfl rfl (by simp [State.issued, hph, hx])))
  | received hf hph =>
    have hph : s.brdPh = true := hph
    exact .inl (.of_none (requestIssued_out hx) (remainingRequests_retire h.built hb (by simp [hf])
      (by simp [State.issued, hph, hx, microRequests_length_read (congrArg Instr.kind hf)]) rfl rfl rfl rfl rfl rfl))
  | failed hk => exact .inr (abort_dropsRequests h hx hk nofun)
  | malformed hf => exact .inr (abort_dropsRequests h hx (.inr (congrArg Instr.kind hf)) nofun)

/-- Every step of a running program short of a reset. -/
theorem StepEffect.issuesNext_or_dropsRequests {s t : State} (h : s.Inv) (hb : s.busy = true)
    (he : s.nextEvent ≠ .reset) (ht : StepEffect s t) : IssuesNext s t ∨ DropsRequests s t := by
  have h0 : s.takeEvent.Inv := takeEvent_inv h
  have hb0 : s.takeEvent.busy = true := by simpa using hb
  have hf0 := fetched_takeEvent s
  cases ht with
  | host _ ht => exact .inl (issuesNext_takeEvent.mp (ht.issuesNext hb0))
  | seq _ _ hx _ ht =>
    exact .inl (issuesNext_takeEvent.mp (OwnEffect.issuesNext h0 hb0 (by simpa using hx) (hf0.symm ▸ ht)))
  | xport _ hx ht =>
    exact (Completion.issuesNext_or_dropsRequests h0 (by simpa using hx) (hf0.symm ▸ ht)).imp
      issuesNext_takeEvent.mp dropsRequests_takeEvent.mp
  | seqPass | seqDiscard | xportPass | tick =>
    exact .inl (issuesNext_takeEvent.mp (.of_same rfl rfl rfl rfl rfl rfl))
  | reset hr => exact absurd hr he

/-! ## The two programs' lists -/

/-- The parameters the source fixes have its values (R10). -/
theorem sourceValues_fields {c : Config} (h : c.sourceValues = true) :
    c.devAddr = 0x4C ∧ c.valGain = 0x01 ∧ c.valCtrl = 0x02 ∧ c.valIntArm = 0x3F ∧ c.valIntStart = 0x3E ∧
    c.regVbus = 0x10 ∧ c.regVsense = 0x12 ∧ c.regVpower = 0x1D ∧ c.regOvf = 0x1C ∧
    c.lenChannel = 2 ∧ c.lenOvf = 1 := by
  have hc := beq_iff_eq.mp h
  rw [hc]
  exact ⟨rfl, rfl, rfl, rfl, rfl, rfl, rfl, rfl, rfl, rfl, rfl⟩

/-- The INIT program's two register writes (R189). -/
theorem requestsFrom_initEntry (c : Config) : requestsFrom c (romOf c) romDepth initEntry =
    [.write c.devAddr [c.regGain, c.valGain], .write c.devAddr [c.regCtrl, c.valCtrl]] := by
  simp [requestsFrom, decode_romOf, listed, initEntry, writeRequest]

/-- The MEASURE program's two register writes and four register reads (R190). -/
theorem requestsFrom_measEntry {c : Config} (h : c.sourceValues = true) : requestsFrom c (romOf c) romDepth measEntry =
    [.write 0x4C [c.regInteg, 0x3F], .write 0x4C [c.regInteg, 0x3E], .write 0x4C [0x10], .read 0x4C 2,
     .write 0x4C [0x12], .read 0x4C 2, .write 0x4C [0x1D], .read 0x4C 2, .write 0x4C [0x1C], .read 0x4C 1] := by
  obtain ⟨hdev, -, -, harm, hstart, hvbus, hvsense, hvpower, hovf, hchannel, hlen⟩ := sourceValues_fields h
  simp [requestsFrom, decode_romOf, listed, measEntry, writeRequest, pointerRequest, dataRequest, byteCount,
    hdev, harm, hstart, hvbus, hvsense, hvpower, hovf, hchannel, hlen]

/-- At its first micro-operation a program owes its whole list. -/
theorem remainingRequests_entry {s : State} (h : s.Inv) (hb : s.busy = true) (hx : s.xact = .idle)
    (hk : (fetched s).kind = .write) :
    remainingRequests s = requestsFrom s.cfg (romOf s.cfg) romDepth s.upc := by
  have q := h.atRest hx (by simp [hk]) (by simp [hk])
  have hnone : s.issued = 0 := by simp [State.issued, q.phase, hx]
  rw [remainingRequests_busy hb, hnone, List.drop_zero, h.built.2]

/-- Settles O49: each effect of a step issues the next request owed, issues none, or drops them all with an error; the two
lists are read off the ROM. -/
theorem programsIssueTheirRequestsInOrder : Obligations.ProgramsIssueTheirRequestsInOrder := by
  refine ⟨fun s t h hb hstep he => (step_effect hstep).issuesNext_or_dropsRequests h hb he,
    fun s h hsrc hs hu hx => ?_, fun s h hsrc hs hu hx => ?_⟩
  · have hk : (fetched s).kind = .write := by rw [fetched_built h.built, hu]; rfl
    obtain ⟨hdev, hgain, hctrl, -⟩ := sourceValues_fields hsrc
    rw [remainingRequests_entry h (by rw [State.busy, hs]; rfl) hx hk, hu]
    exact (requestsFrom_initEntry _).trans (by rw [hdev, hgain, hctrl])
  · have hk : (fetched s).kind = .write := by rw [fetched_built h.built, hu]; rfl
    rw [remainingRequests_entry h (by rw [State.busy, hs]; rfl) hx hk, hu]
    exact requestsFrom_measEntry hsrc

end Sys2Proof.Machine

/-! # Decoding and encoding are inverse (30_encoding.md sections 1 and 2)

The decoder is read off on words written by their fields; `decode (encode i) = i` follows per instruction. Every code word is
the encoding of a well-formed instruction, so what is said of decoding words follows from that one equation. -/

namespace Sys2Proof

/-! ## Words by their fields -/

/-- Every host word is written by its W, A and the two bytes of its D (R91). -/
theorem exists_hostWord (w : HWord) : ∃ (b : Bool) (a : HAddr) (hi code : Byte), w = hostWord b a (hi ++ code) := by
  have hd : w.extractLsb' 8 8 ++ w.extractLsb' 0 8 = w.extractLsb' 0 16 :=
    BitVec.extractLsb'_append_extractLsb'_eq_extractLsb' rfl
  exact ⟨_, _, _, _, ((congrArg _ hd).trans (hostWord_of_fields w)).symm⟩

/-- Every microword is written by its UOP, bit 17 and operand fields (R99). -/
theorem exists_microword (w : UWord) : ∃ u b f, w = microword u b f := ⟨_, _, _, (microword_of_fields w).symm⟩

/-- A microword is its UOP and the bits below. -/
theorem append_body_microword (u : BitVec 4) (b : Bool) (f : UFields) :
    u ++ (microword u b f).extractLsb' 0 20 = microword u b f := by
  have h : (microword u b f).extractLsb' 20 4 ++ (microword u b f).extractLsb' 0 20 = microword u b f :=
    BitVec.extractLsb'_append_extractLsb'
  rwa [microword_uop] at h

/-- An offset is one of the four registers, or reserved (R61). -/
theorem offset_cases (a : HAddr) : a = 0x0 ∨ a = 0x1 ∨ a = 0x2 ∨ a = 0x3 ∨ isReservedOffset a = true := by
  simp only [isReservedOffset, decide_eq_true_eq]; bv_omega

/-- A UOP that is not reserved is one of the five micro-operations (R100). -/
theorem defined_uop_cases {u : BitVec 4} (h : isReservedUop u = false) :
    u = 0x0 ∨ u = 0x1 ∨ u = 0x2 ∨ u = 0x3 ∨ u = 0x4 := by
  simp only [isReservedUop, decide_eq_false_iff_not] at h; bv_omega

/-! ## The decoder on words by their fields -/

/-- The rows of R92 with W = 0. -/
theorem decodeHost_read (a : HAddr) (d : HData) :
    decodeHost (hostWord false a d) =
      if isReservedOffset a then .hrRsvd a d
      else if a = 0 then .hrCmd d
      else if a = 1 then .hrStatus d
      else if a = 2 then .hrSel d
      else .hrSample d := by
  simp only [decodeHost, hostWord_write, hostWord_offset, hostWord_data, isReservedOffset, decide_eq_true_eq,
    Bool.false_eq_true, if_false]

/-- The rows of R92 with W = 1, but for CMD, which `decodeHost_command` has. -/
theorem decodeHost_write {a : HAddr} (ha : a ≠ 0) (d : HData) :
    decodeHost (hostWord true a d) =
      if isReservedOffset a then .hwRsvd a d
      else if a = 1 then .hwStatus d
      else if a = 2 then .hwSel d
      else .hwSample d := by
  simp only [decodeHost, hostWord_write, hostWord_offset, hostWord_data, isReservedOffset, decide_eq_true_eq, ha,
    if_true, if_false]

theorem isCommandCode_eq_false {b : Byte} : isCommandCode b = false ↔ b ≠ 0x01 ∧ b ≠ 0x02 ∧ b ≠ 0x03 := by
  simp [isCommandCode, and_assoc]

theorem decodeHost_cmdOther {hi code : Byte} (h : isCommandCode code = false) :
    decodeHost (hostWord true 0x0 (hi ++ code)) = .hwCmdOther (hi ++ code) := by
  obtain ⟨h1, h2, h3⟩ := isCommandCode_eq_false.mp h
  rw [Machine.decodeHost_command, if_neg h1, if_neg h2, if_neg h3]

theorem decodeMicro_rsvdUop {u : BitVec 4} (hu : isReservedUop u = true) (body : BitVec 20) :
    decodeMicro (u ++ body) = .rsvdUop u body := by
  simp only [decodeMicro, BitVec.extractLsb'_append_eq_left, BitVec.extractLsb'_append_eq_right]
  exact if_pos (of_decide_eq_true hu)

theorem decodeMicro_rsvdB17 {u : BitVec 4} (hu : isReservedUop u = false) (f : UFields) :
    decodeMicro (microword u true f) = .rsvdB17 u f := by
  simp only [decodeMicro, microword_uop, microword_b17, microword_fields]
  exact if_neg (of_decide_eq_false hu)

/-! ## Decode and encode -/

/-- Settles O1, by the instruction: its encoding is a word whose fields select its row. -/
theorem decodeOfEncodeIsTheInstruction : Obligations.DecodeOfEncodeIsTheInstruction := by
  intro i hwf
  cases i with
  | hwCmdInit ign => exact Machine.decodeHost_command ign 0x01
  | hwCmdMeasure ign => exact Machine.decodeHost_command ign 0x02
  | hwCmdRelease ign => exact Machine.decodeHost_command ign 0x03
  | hwCmdOther d =>
    rw [← BitVec.extractLsb'_append_extractLsb' (w := 8) (len := 8) (x := d)]
    exact decodeHost_cmdOther (Bool.not_eq_eq_eq_not.mp hwf)
  | hrCmd d | hrStatus d | hrSel d | hrSample d => exact decodeHost_read _ d
  | hwStatus d | hwSel d | hwSample d => exact decodeHost_write (by decide) d
  | hrRsvd a d => exact (decodeHost_read a d).trans (if_pos hwf)
  | hwRsvd a d =>
    have ha : a ≠ 0 := by rintro rfl; cases hwf
    exact (decodeHost_write ha d).trans (if_pos hwf)
  | uopEnd f => exact decodeMicro_end f
  | uopBwr f => exact decodeMicro_bwr f
  | uopBrd f => exact decodeMicro_brd f
  | uopWait f => exact decodeMicro_wait f
  | uopCommit f => exact decodeMicro_commit f
  | rsvdUop u body => exact decodeMicro_rsvdUop hwf body
  | rsvdB17 u f => exact decodeMicro_rsvdB17 (Bool.not_eq_eq_eq_not.mp hwf) f

/-- A host word that encodes a well-formed instruction decodes to it. -/
theorem decodeHost_of_encode {i : Instr} {w : HWord} (hwf : i.wellFormed = true) (h : encode i = .host w) :
    decodeHost w = i := by
  have hdecode := decodeOfEncodeIsTheInstruction i hwf
  rwa [h] at hdecode

/-- A microword that encodes a well-formed instruction decodes to it. -/
theorem decodeMicro_of_encode {i : Instr} {w : UWord} (hwf : i.wellFormed = true) (h : encode i = .rom w) :
    decodeMicro w = i := by
  have hdecode := decodeOfEncodeIsTheInstruction i hwf
  rwa [h] at hdecode

theorem wellFormed_hwCmdOther (hi code : Byte) :
    (Instr.hwCmdOther (hi ++ code)).wellFormed = !isCommandCode code := by
  rw [Instr.wellFormed, BitVec.extractLsb'_append_eq_right]

/-- A CMD write encodes one of the three commands or a reserved code (R93). -/
theorem exists_encode_command (hi code : Byte) :
    ∃ i : Instr, i.wellFormed = true ∧ encode i = .host (hostWord true 0x0 (hi ++ code)) := by
  cases hcode : isCommandCode code with
  | false => exact ⟨.hwCmdOther (hi ++ code), by rw [wellFormed_hwCmdOther, hcode]; rfl, rfl⟩
  | true =>
    obtain (rfl | rfl) | rfl : (code = 0x01 ∨ code = 0x02) ∨ code = 0x03 := by simpa [isCommandCode] using hcode
    · exact ⟨.hwCmdInit hi, rfl, rfl⟩
    · exact ⟨.hwCmdMeasure hi, rfl, rfl⟩
    · exact ⟨.hwCmdRelease hi, rfl, rfl⟩

/-- The encodings of well-formed instructions leave no host word out (R92). -/
theorem exists_encode_host (w : HWord) : ∃ i : Instr, i.wellFormed = true ∧ encode i = .host w := by
  obtain ⟨b, a, hi, code, rfl⟩ := exists_hostWord w
  obtain rfl | rfl | rfl | rfl | ha := offset_cases a <;> cases b
  · exact ⟨.hrCmd _, rfl, rfl⟩
  · exact exists_encode_command hi code
  · exact ⟨.hrStatus _, rfl, rfl⟩
  · exact ⟨.hwStatus _, rfl, rfl⟩
  · exact ⟨.hrSel _, rfl, rfl⟩
  · exact ⟨.hwSel _, rfl, rfl⟩
  · exact ⟨.hrSample _, rfl, rfl⟩
  · exact ⟨.hwSample _, rfl, rfl⟩
  · exact ⟨.hrRsvd a _, ha, rfl⟩
  · exact ⟨.hwRsvd a _, ha, rfl⟩

/-- The encodings of well-formed instructions leave no microword out (R100, R106). -/
theorem exists_encode_rom (w : UWord) : ∃ i : Instr, i.wellFormed = true ∧ encode i = .rom w := by
  obtain ⟨u, b, f, rfl⟩ := exists_microword w
  cases hu : isReservedUop u with
  | true => exact ⟨.rsvdUop u _, hu, congrArg _ (append_body_microword u b f)⟩
  | false =>
    cases b with
    | true => exact ⟨.rsvdB17 u f, by rw [Instr.wellFormed, hu]; rfl, rfl⟩
    | false =>
      obtain rfl | rfl | rfl | rfl | rfl := defined_uop_cases hu
      · exact ⟨.uopEnd f, rfl, rfl⟩
      · exact ⟨.uopBwr f, rfl, rfl⟩
      · exact ⟨.uopBrd f, rfl, rfl⟩
      · exact ⟨.uopWait f, rfl, rfl⟩
      · exact ⟨.uopCommit f, rfl, rfl⟩

/-- Settles O2: every word is the encoding of a well-formed instruction, which is the one it decodes to. -/
theorem encodeOfDecodeIsTheWord : Obligations.EncodeOfDecodeIsTheWord := by
  intro c
  obtain ⟨i, hwf, rfl⟩ : ∃ i : Instr, i.wellFormed = true ∧ encode i = c := by
    cases c with
    | host w => exact exists_encode_host w
    | rom w => exact exists_encode_rom w
  rw [decodeOfEncodeIsTheInstruction i hwf]
  exact ⟨rfl, hwf⟩

/-! ## The decode maps, row by row -/

/-- Settles O3: a word with the W, A and D[7:0] of a row is the encoding of the row's instruction. -/
theorem hostWordsDecodeByTheDecodeMap : Obligations.HostWordsDecodeByTheDecodeMap := by
  intro w a d hi code ha hd hhi hcode
  obtain ⟨b, a', hi', code', rfl⟩ := exists_hostWord w
  simp only [hostWord_offset, hostWord_data, hostWord_ignored, hostWord_code] at ha hd hhi hcode
  rw [hostWord_write]
  subst ha hd hhi hcode
  refine ⟨?init, ?measure, ?release, ?other, ?hrCmd, ?hrStatus, ?hwStatus, ?hwSel, ?hrSel, ?hrSample, ?hwSample,
    ?hrRsvd, ?hwRsvd⟩
  case init | measure | release => rintro rfl rfl rfl; exact decodeHost_of_encode rfl rfl
  case other => rintro rfl rfl h1 h2 h3; exact decodeHost_cmdOther (isCommandCode_eq_false.mpr ⟨h1, h2, h3⟩)
  case hrRsvd | hwRsvd => rintro rfl hrsvd; exact decodeHost_of_encode (decide_eq_true hrsvd) rfl
  all_goals rintro rfl rfl; exact decodeHost_of_encode rfl rfl

/-- Settles O4: a word with the UOP and bit 17 of a row is the encoding of the row's instruction. -/
theorem microwordsDecodeByUop : Obligations.MicrowordsDecodeByUop := by
  intro w uop g huop hg
  obtain ⟨u, b, f, rfl⟩ := exists_microword w
  have hf : g = f := hg.trans (microword_fields u b f)
  rw [microword_uop] at huop
  rw [microword_b17]
  subst huop hf
  refine ⟨?uopEnd, ?uopBwr, ?uopBrd, ?uopWait, ?uopCommit, fun hu => ?rsvdUop, fun hb hu => ?rsvdB17⟩
  case rsvdUop =>
    exact decodeMicro_of_encode (decide_eq_true hu) (congrArg CodeWord.rom (append_body_microword _ b _))
  case rsvdB17 => rw [hb]; exact decodeMicro_rsvdB17 (decide_eq_false (by omega)) _
  all_goals rintro rfl rfl; exact decodeMicro_of_encode rfl rfl

/-- Settles O5: each word written out is the encoding of its instruction. -/
theorem writtenOutWordsDecode : Obligations.WrittenOutWordsDecode :=
  ⟨decodeHost_of_encode rfl rfl, decodeHost_of_encode rfl rfl, decodeHost_of_encode rfl rfl,
    decodeMicro_of_encode rfl rfl, decodeMicro_of_encode rfl rfl, decodeMicro_of_encode rfl rfl⟩

namespace Machine

/-! ## The ROM listing -/

theorem bwrWord_bytes (reg data : Byte) : bwrWord reg data = 0x10#8 ++ reg ++ data := by
  apply bits_eq; intro i hi
  simp only [bwrWord, microword, BitVec.getLsbD_append]
  interval_cases i <;> simp

/-- Settles O6: only the four BWR words hold one of the three pointers, each in its REG byte. -/
theorem romHoldsTheListing : Obligations.RomHoldsTheListing := by
  intro gain integ ctrl
  simp only [romOf, bwrWord_bytes]
  rfl

end Machine

end Sys2Proof

/-! # Reserved microwords, and why a reachable state meets none (30_encoding.md section 4) -/

namespace Sys2Proof.Machine

/-! ## Reserved microwords stop, in every state -/

theorem delayOf_eq_none {c : Config} {f : UFields} : delayOf c f = none ↔ 2 ≤ f.a.toNat := by
  unfold delayOf
  split_ifs with h0 h1
  · simp [h0]
  · simp [h1]
  · exact iff_of_true rfl (by bv_omega)

/-- END's next state as a number. -/
theorem toNat_nextState (f : UFields) : (f.data.extractLsb' 0 3).toNat = f.data.toNat % 8 := by
  simp [BitVec.extractLsb'_toNat]

theorem endState_eq_none {f : UFields} :
    endState f = none ↔ f.data.toNat % 8 ≠ 2 ∧ f.data.toNat % 8 ≠ 4 := by
  rw [← toNat_nextState]
  unfold endState
  split_ifs with h2 h4
  · simp [h2]
  · simp [h4]
  · exact iff_of_true rfl (by bv_omega)

theorem execUopWait_reserved {f : UFields} {s : State} (h : delayOf s.cfg f = none) :
    execUopWait f s = .fault .unmodelledMicroOp := by
  rw [execUopWait, h]

theorem execUopEnd_reserved {f : UFields} (h : endState f = none) (s : State) :
    execUopEnd f s = .fault .unmodelledMicroOp := by
  rw [execUopEnd, h]

/-- Settles O41: the fault is raised before the transport port is looked at. -/
theorem reservedMicrowordsFault : Obligations.ReservedMicrowordsFault := fun _ _ _ s =>
  ⟨rfl, rfl, fun ha => execUopWait_reserved (delayOf_eq_none.mpr ha),
    fun h2 h4 => execUopEnd_reserved (endState_eq_none.mpr ⟨h2, h4⟩) s⟩

/-! ## What is not reserved goes on -/

/-- The microwords R106 does not list as reserved: those SEQ has a meaning for. -/
def HasMeaning (c : Config) : Instr → Prop
  | .uopBwr _ | .uopBrd _ | .uopCommit _ => True
  | .uopWait f => (delayOf c f).isSome
  | .uopEnd f => (endState f).isSome
  | _ => False

/-- The listing of R104 holds no reserved microword. -/
theorem listed_hasMeaning (c : Config) (a : Nat) : HasMeaning c (listed c a) := by
  unfold listed
  split <;> trivial

theorem waitStep_next (n : Nat) (s : State) : ∃ t, waitStep n s = .next t := by
  unfold waitStep
  split_ifs <;> exact ⟨_, rfl⟩

/-- With no request outstanding and no response, a micro-operation that has a meaning takes its step. -/
theorem exec_own_next {i : Instr} {s : State} (hi : HasMeaning s.cfg i) (hx : s.xact = .idle) (hr : s.xresp = none) :
    ∃ t, exec i s = .next t := by
  cases i with
  | uopBwr f => exact ⟨_, sequenced_own hx hr⟩
  | uopBrd f =>
    simp only [exec, execUopBrd]
    split_ifs <;> exact ⟨_, sequenced_own hx hr⟩
  | uopCommit f => exact ⟨_, sequenced_own hx hr⟩
  | uopWait f =>
    obtain ⟨n, hn⟩ := Option.isSome_iff_exists.mp hi
    simpa only [exec, execUopWait, hn, sequenced_own hx hr] using waitStep_next n s
  | uopEnd f =>
    obtain ⟨st, hst⟩ := Option.isSome_iff_exists.mp hi
    simp only [exec, execUopEnd, hst, sequenced_own hx hr]
    exact ⟨_, rfl⟩
  | _ => exact hi.elim

/-- Every answer to a write completes a BWR (R154, R155). -/
theorem completeBwr_next (d : DevAddr) (bs : List Byte) (a : Answer) (s : State) :
    ∃ t, completeBwr (responseTo (.write d bs) a) s = .next t := by
  rw [responseTo_write]
  split_ifs <;> exact ⟨_, rfl⟩

/-- Every answer to a write completes a BRD's pointer write (R157, R158). -/
theorem completePointer_next (d : DevAddr) (bs : List Byte) (a : Answer) (s : State) :
    ∃ t, completePointer (responseTo (.write d bs) a) s = .next t := by
  rw [responseTo_write]
  split_ifs <;> exact ⟨_, rfl⟩

/-- Every answer to a read completes a BRD's data read, whatever bytes it brings (R160 to R162). -/
theorem completeData_next (f : UFields) (d : DevAddr) (n : Nat) (a : Answer) (s : State) :
    ∃ t, completeData f (responseTo (.read d n) a) s = .next t := by
  rw [responseTo_read]
  split_ifs
  · rw [completeData]
    cases readValue f a.bytes <;> exact ⟨_, rfl⟩
  · exact ⟨_, rfl⟩

/-- An answer to the request a micro-operation made is one it has a rule for (R151). -/
theorem exec_answer_next {i : Instr} {s : State} {r : Request} {a : Answer} (hi : requestOf s.cfg i s.brdPh = some r)
    (hx : s.xact = .out r) (hr : s.xresp = some (responseTo r a)) : ∃ t, exec i s = .next t := by
  cases i with
  | uopBwr f =>
    rw [requestOf, Option.ite_none_left_eq_some] at hi
    cases hi.2
    rw [exec, execUopBwr, sequenced_response hx hr]
    exact completeBwr_next _ _ _ _
  | uopBrd f =>
    simp only [exec, execUopBrd]
    split
    next hph =>
      rw [requestOf, if_pos hph] at hi
      cases hi
      rw [sequenced_response hx hr]; exact completeData_next _ _ _ _ _
    next hph =>
      rw [requestOf, if_neg hph] at hi
      cases hi
      rw [sequenced_response hx hr]; exact completePointer_next _ _ _ _
  | _ => cases hi

/-! ## Every event is a step -/

theorem hostStep_next (w : HWord) (s : State) : ∃ t, hostStep w s = .next t := by
  obtain ⟨t, ht, -⟩ := exec_hostEffect (decodeHost_space w) s
  exact ⟨t, ht⟩

/-- SEQ finds a microword of the listing, and no response waiting. -/
theorem State.Inv.seqStep_next {s : State} (h : s.Inv) : ∃ t, seqStep s = .next t := by
  obtain ⟨-, hx, hexec⟩ | ⟨-, hpass⟩ := seqStep_cases (rfl : seqStep s = _)
  · rw [hexec]
    exact exec_own_next (fetched_built h.built ▸ listed_hasMeaning _ _) hx h.xresp
  · exact ⟨s, hpass⟩

/-- The outstanding request is that of the micro-operation at UPC (R34), which has a rule for each of its answers. -/
theorem State.Inv.xportStep_next {s : State} (h : s.Inv) (a : Answer) : ∃ t, xportStep a s = .next t := by
  obtain ⟨-, hpass⟩ | ⟨r, hx, hexec⟩ := xportStep_cases (rfl : xportStep a s = _)
  · exact ⟨s, hpass⟩
  · rw [hexec]
    exact exec_answer_next (s := s.latchResponse (responseTo r a)) (h.xact r hx).2 hx rfl

/-- Settles O12, by the agent that takes the step. -/
theorem invariantStatesNeverStop : Obligations.InvariantStatesNeverStop := by
  intro s h
  have h0 : s.takeEvent.Inv := takeEvent_inv h
  rw [step]
  cases s.nextEvent with
  | host w => exact hostStep_next w _
  | seq => exact h0.seqStep_next
  | xport a => exact h0.xportStep_next a
  | tick => exact ⟨_, rfl⟩
  | reset => exact ⟨_, rfl⟩

end Sys2Proof.Machine

/-! # STATUS (30_encoding.md R94) -/

namespace Sys2Proof.Machine

namespace State

variable (s : State)

theorem statusWord_state : s.statusWord.extractLsb' 0 3 = s.state.code := by
  apply bits_eq; intro i hi
  simp only [statusWord, BitVec.getLsbD_extractLsb', BitVec.getLsbD_setWidth, BitVec.getLsbD_append]
  interval_cases i <;> simp

theorem statusWord_busy : s.statusWord.getLsbD 3 = s.busy := by
  simp only [statusWord, BitVec.getLsbD_setWidth, BitVec.getLsbD_append]; simp

theorem statusWord_valid : s.statusWord.getLsbD 4 = s.valid := by
  simp only [statusWord, BitVec.getLsbD_setWidth, BitVec.getLsbD_append]; simp

theorem statusWord_lastErr : s.statusWord.extractLsb' 5 2 = s.lastErr.code := by
  apply bits_eq; intro i hi
  simp only [statusWord, BitVec.getLsbD_extractLsb', BitVec.getLsbD_setWidth, BitVec.getLsbD_append]
  interval_cases i <;> simp

theorem statusWord_cmdRej : s.statusWord.getLsbD 7 = s.cmdRej := by
  simp only [statusWord, BitVec.getLsbD_setWidth, BitVec.getLsbD_append]; simp

theorem statusWord_busOwn : s.statusWord.getLsbD 8 = s.busOwn := by
  simp only [statusWord, BitVec.getLsbD_setWidth, BitVec.getLsbD_append]; simp

theorem statusWord_high : s.statusWord.extractLsb' 9 7 = 0 := by
  apply bits_eq; intro i hi
  simp only [statusWord, BitVec.getLsbD_extractLsb', BitVec.getLsbD_setWidth]
  interval_cases i <;> simp

end State

/-- Settles O22: each field of STATUS is read back from the concatenation; the codes are those of R95 and R96. -/
theorem statusWordLayout : Obligations.StatusWordLayout := by
  rintro s v rfl
  refine ⟨s.statusWord_state.trans ?_, s.statusWord_busy.trans ?_, s.statusWord_valid, s.statusWord_lastErr.trans ?_,
    s.statusWord_cmdRej, s.statusWord_busOwn, s.statusWord_high⟩
  · cases s.state <;> rfl
  · rw [State.busy]; cases s.state <;> rfl
  · cases s.lastErr <;> rfl

end Sys2Proof.Machine

/-! # A snapshot of the committed bank (30_encoding.md R107) -/

namespace Sys2Proof.Machine

theorem channelOf_zeroExtend (k : BitVec 2) : channelOf (k.zeroExtend 16) = k := by
  revert k; decide

theorem decodeHost_hw_sel (d : HData) : decodeHost (hw regSEL d) = .hwSel d := decodeHost_of_encode rfl rfl

/-- A SEL write on the tape (R128). -/
theorem step_selWrite {s : State} {d : HData} {rest : List Event} (htape : s.sched = .host (hw regSEL d) :: rest) :
    step s = .next { s with sel := channelOf d, rdata := none, sched := rest } := by
  rw [step_host htape, decodeHost_hw_sel]; rfl

/-- A SAMPLE read on the tape (R130). -/
theorem step_sampleRead {s : State} {rest : List Event} (htape : s.sched = .host (hr regSAMPLE) :: rest) :
    step s = .next { s with rdata := some (mux s.committed s.sel), sched := rest } :=
  step_hostRead htape rfl

/-- The state after `sample k` (R107), with the tape's rest left. -/
def State.sampled (s : State) (k : BitVec 2) (rest : List Event) : State :=
  { s with sel := k, rdata := some (mux s.committed k), sched := rest }

@[simp] theorem State.sampled_rdata (s : State) (k : BitVec 2) (rest : List Event) :
    (s.sampled k rest).rdata = some (mux s.committed k) := rfl

@[simp] theorem State.sampled_committed (s : State) (k : BitVec 2) (rest : List Event) :
    (s.sampled k rest).committed = s.committed := rfl

/-- The two accesses of `sample k` read channel `k` of the committed bank and leave the bank as it is. -/
theorem run_hostSample {s : State} {k : BitVec 2} {rest : List Event}
    (htape : s.sched = (hostSample k).map .host ++ rest) : run 2 s = .next (s.sampled k rest) := by
  rw [run_succ _ _ _ (step_selWrite htape), run_succ _ _ _ (step_sampleRead rfl), run_zero, channelOf_zeroExtend]
  rfl

theorem stateAt_of_run {s t : State} {k : Nat} (h : run k s = .next t) : stateAt s k = some t := by
  rw [stateAt, h]

/-- Settles O28: each `sample k` leaves the committed bank to the next. -/
theorem snapshotReadsTheCommittedBank : Obligations.SnapshotReadsTheCommittedBank := by
  intro s rest htape
  have h2 : run 2 s = .next (s.sampled 0 _) := run_hostSample (by simpa [hostSnapshot] using htape)
  have h4 := (run_add 2 2 _ _ h2).trans (run_hostSample (k := 1) rfl)
  have h6 := (run_add 4 2 _ _ h4).trans (run_hostSample (k := 2) rfl)
  have h8 := (run_add 6 2 _ _ h6).trans (run_hostSample (k := 3) rfl)
  rw [stateAt_of_run h2, stateAt_of_run h4, stateAt_of_run h6, stateAt_of_run h8]
  simp [mux]

end Sys2Proof.Machine

/-! # Each host access, in every state (40_host_interface.md) -/

namespace Sys2Proof.Machine

/-! ## A step runs the instruction of its agent's word -/

/-- The micro-operation at UPC is the one whose encoding ROM[UPC] is. -/
theorem fetched_of_encode {s : State} {i : Instr} (hwf : i.wellFormed = true)
    (h : encode i = .rom (romAt s.rom s.upc)) : fetched s = i :=
  decodeMicro_of_encode hwf h

/-- A step whose event is SEQ's, where SEQ has one (R152). -/
theorem step_seq {s : State} {rest : List Event} (htape : s.sched = .seq :: rest) (hb : s.busy = true)
    (hx : s.xact = .idle) : step s = exec (fetched s) { s with sched := rest, rdata := none } := by
  have henabled : seqEnabled { s with sched := rest, rdata := none } = true := by
    rw [seqEnabled, Bool.and_eq_true, beq_iff_eq]; exact ⟨hb, hx⟩
  rw [step, State.nextEvent_cons _ _ _ htape, State.takeEvent_cons _ _ _ htape]
  exact if_pos henabled

/-- A step whose event is XPORT's, with a request outstanding (R151). -/
theorem step_xport {s : State} {r : Request} {a : Answer} {rest : List Event} (htape : s.sched = .xport a :: rest)
    (hx : s.xact = .out r) :
    step s = exec (fetched s) { s with sched := rest, rdata := none, xresp := some (responseTo r a) } := by
  rw [step, State.nextEvent_cons _ _ _ htape, State.takeEvent_cons _ _ _ htape, agentStep, xportStep, hx]
  rfl

/-- Settles O7, by the agent: its word decodes to the instruction it encodes. -/
theorem stepRunsTheDecodedInstruction : Obligations.StepRunsTheDecodedInstruction := by
  intro s i rest hwf
  refine ⟨fun w hw htape => ?host, fun hrom hb hx htape => ?seq, fun r a hrom hx htape => ?xport⟩
  case host => rw [step_host htape, decodeHost_of_encode hwf hw]
  case seq => rw [step_seq htape hb hx, fetched_of_encode hwf hrom]
  case xport => rw [step_xport htape hx, fetched_of_encode hwf hrom]

/-! ## A host access completes, and its W says whether it returns data -/

/-- A host word with W = 1 is a write, which completes and returns no data (R120). -/
theorem exec_hostWrite {w : HWord} (hw : w.getLsbD 20 = true) (s : State) :
    ∃ t, exec (decodeHost w) s = .next t ∧ t.rdata = none := by
  obtain ⟨i, hwf, hi⟩ := exists_encode_host w
  rw [decodeHost_of_encode hwf hi]
  cases i with
  | hwCmdInit | hwCmdMeasure | hwCmdRelease | hwCmdOther | hwStatus | hwSel | hwSample | hwRsvd => exact ⟨_, rfl, rfl⟩
  | hrCmd | hrStatus | hrSel | hrSample | hrRsvd => cases hi; rw [hostWord_write] at hw; cases hw
  | uopEnd | uopBwr | uopBrd | uopWait | uopCommit | rsvdUop | rsvdB17 => cases hi

/-- Settles O23, by the W of the word. -/
theorem hostStepIsEnabledInEveryState : Obligations.HostStepIsEnabledInEveryState := by
  intro s w rest htape
  rw [step_host htape]
  cases hw : w.getLsbD 20 with
  | false => exact ⟨_, exec_hostRead hw _, exec_hostRead hw _, nofun, fun _ => nofun⟩
  | true =>
    obtain ⟨t, ht, hnone⟩ := exec_hostWrite hw { s with sched := rest, rdata := none }
    exact ⟨t, ht, ht, fun _ => hnone, nofun⟩

/-! ## Writes of CMD: accepted in some states, rejected in the others -/

theorem command_rejected (s : State) (act : State → State) :
    command s false act = .next (s.reject.setRdata none) := rfl

/-- Settles O13. -/
theorem initStartsTheProgramOrIsRejected : Obligations.InitStartsTheProgramOrIsRejected := by
  intro ign s
  refine ⟨fun hs => ?accepted, fun hs => ?rejected⟩
  case accepted => rw [exec, execHwCmdInit, beq_iff_eq.mpr hs, command_accepted]; rfl
  case rejected => rw [exec, execHwCmdInit, beq_eq_false_iff_ne.mpr hs, command_rejected]; rfl

/-- Settles O14. -/
theorem measureStartsTheProgramOrIsRejected : Obligations.MeasureStartsTheProgramOrIsRejected := by
  intro ign s
  refine ⟨fun hs => ?accepted, fun hs => ?rejected⟩
  case accepted => rw [exec, execHwCmdMeasure, beq_iff_eq.mpr hs, command_accepted]; rfl
  case rejected => rw [exec, execHwCmdMeasure, beq_eq_false_iff_ne.mpr hs, command_rejected]; rfl

/-- The states in which RELEASE is rejected are the other three (R123). -/
theorem releasable_eq_false {st : BlockState} (h : st = .initializing ∨ st = .measuring ∨ st = .closed) :
    releasable st = false := by
  obtain rfl | rfl | rfl := h <;> rfl

/-- Settles O15. -/
theorem releaseClosesOrIsRejected : Obligations.ReleaseClosesOrIsRejected := by
  intro ign s
  refine ⟨fun hs => ?accepted, fun hs => ?rejected⟩
  case accepted => rw [exec, execHwCmdRelease, (releasable_iff _).mpr hs, command_accepted]; rfl
  case rejected => rw [exec, execHwCmdRelease, releasable_eq_false hs, command_rejected]; rfl

/-- Settles O16: a reserved code is accepted in no state. -/
theorem reservedCommandIsRejected : Obligations.ReservedCommandIsRejected := fun _ s => command_rejected s id

/-! ## The other registers -/

/-- A SAMPLE read returns the channel SEL holds (R130). -/
theorem exec_hrSample {s : State} {k : BitVec 2} (hsel : s.sel = k) (d : HData) :
    exec (.hrSample d) s = hostRead s (mux s.committed k) := by
  rw [← hsel]; rfl

/-- Settles O19: a read writes the read data port only; for SAMPLE the readout multiplexer has one row per SEL. -/
theorem hostReadsReturnTheirRegister : Obligations.HostReadsReturnTheirRegister := by
  rintro d _ s rfl
  exact ⟨rfl, rfl, rfl, fun hsel => exec_hrSample hsel d, fun hsel => exec_hrSample hsel d,
    fun hsel => exec_hrSample hsel d, fun hsel => exec_hrSample hsel d⟩

/-- Settles O20: the three writes are `hostWriteIgnored`, and the read returns 0 in every state. -/
theorem ignoredAccessesChangeNothing : Obligations.IgnoredAccessesChangeNothing := fun _ _ _ => ⟨rfl, rfl, rfl, rfl⟩

theorem toNat_channelOf (d : HData) : (channelOf d).toNat = d.toNat % 4 := by
  rw [channelOf, BitVec.extractLsb'_toNat, Nat.shiftRight_zero]

/-- Settles O21. -/
theorem selWriteTakesTheLowBits : Obligations.SelWriteTakesTheLowBits := fun d _ => ⟨_, rfl, toNat_channelOf d, rfl⟩

end Sys2Proof.Machine

/-! # The register sequencer (41_bus_sequencer.md) -/

namespace Sys2Proof.Machine

/-! ## Agents that have no step -/

/-- SEQ has no step while BUSY = 0 or XACT = OUT (R152), and its event passes (log 3). -/
theorem step_seq_disabled {s : State} {rest : List Event} (htape : s.sched = .seq :: rest)
    (hd : s.busy = false ∨ s.xact ≠ .idle) : step s = .next { s with sched := rest, rdata := none } := by
  have hdisabled : ¬ seqEnabled { s with sched := rest, rdata := none } = true := by
    rw [seqEnabled, Bool.and_eq_true, beq_iff_eq]
    rintro ⟨hb, hx⟩
    exact hd.elim (fun hidle => absurd (hb.symm.trans hidle) nofun) (· hx)
  rw [step, State.nextEvent_cons _ _ _ htape, State.takeEvent_cons _ _ _ htape]
  exact if_neg hdisabled

/-- A response with no request outstanding is discarded (R165). -/
theorem step_xport_idle {s : State} {a : Answer} {rest : List Event} (htape : s.sched = .xport a :: rest)
    (hx : s.xact = .idle) : step s = .next { s with sched := rest, rdata := none } := by
  rw [step, State.nextEvent_cons _ _ _ htape, State.takeEvent_cons _ _ _ htape, agentStep, xportStep, hx]

/-- Settles O8. -/
theorem disabledAgentsChangeNothing : Obligations.DisabledAgentsChangeNothing := by
  intro s rest
  refine ⟨fun hb htape => ?notBusy, fun r hx htape => ?outstanding, fun a hx htape => ?noRequest⟩
  case notBusy => exact step_seq_disabled htape (.inl hb)
  case outstanding => exact step_seq_disabled htape (.inr (hx ▸ nofun))
  case noRequest => exact step_xport_idle htape hx

/-! ## BWR and BRD, by the phase and the transport port -/

section
variable {f : UFields} {s : State}

/-- BRD in phase 0 is a pointer write (R33, R156). -/
theorem exec_uopBrd_pointer (hph : s.brdPh = false) :
    exec (.uopBrd f) s = sequenced s (.next (s.issue (pointerRequest s.cfg f))) completePointer := by
  rw [exec, execUopBrd, hph]; rfl

/-- BRD in phase 1 is a data read (R33, R159). -/
theorem exec_uopBrd_data (hph : s.brdPh = true) :
    exec (.uopBrd f) s = sequenced s (.next (s.issue (dataRequest s.cfg f))) (completeData f) := by
  rw [exec, execUopBrd, hph]; rfl

variable {r : Request} {p : Response}

/-- A BWR completes with the response to its write. -/
theorem exec_uopBwr_response (hx : s.xact = .out r) (hr : s.xresp = some p) :
    exec (.uopBwr f) s = completeBwr p s.takeResponse :=
  sequenced_response hx hr

/-- A BRD's pointer write completes with the response to it. -/
theorem exec_uopBrd_pointerResponse (hx : s.xact = .out r) (hr : s.xresp = some p) (hph : s.brdPh = false) :
    exec (.uopBrd f) s = completePointer p s.takeResponse := by
  rw [exec_uopBrd_pointer hph, sequenced_response hx hr]

/-- A BRD's data read completes with the response to it. -/
theorem exec_uopBrd_dataResponse (hx : s.xact = .out r) (hr : s.xresp = some p) (hph : s.brdPh = true) :
    exec (.uopBrd f) s = completeData f p s.takeResponse := by
  rw [exec_uopBrd_data hph, sequenced_response hx hr]

end

/-- Settles O30. -/
theorem busOperationsIssueTheirRequest : Obligations.BusOperationsIssueTheirRequest := by
  intro f s hx hr
  refine ⟨sequenced_own hx hr, fun hph => ?pointer, fun hph => ?data⟩
  case pointer => rw [exec_uopBrd_pointer hph, sequenced_own hx hr]; rfl
  case data => rw [exec_uopBrd_data hph, sequenced_own hx hr]; rfl

/-- Settles O31. -/
theorem bwrRetiresOnSuccess : Obligations.BwrRetiresOnSuccess := fun _ _ _ hx hr => exec_uopBwr_response hx hr

/-- Settles O33. -/
theorem brdGoesOnToTheDataRead : Obligations.BrdGoesOnToTheDataRead :=
  fun _ _ _ hx hr hph => exec_uopBrd_pointerResponse hx hr hph

/-! ## The bytes a read returns -/

/-- A wrong byte count gives no value (R161). -/
theorem readValue_eq_none {f : UFields} {bs : List Byte} (h : bs.length ≠ byteCount f) : readValue f bs = none := by
  unfold readValue
  split
  next b0 => exact if_neg h.symm
  next b0 b1 => exact if_neg h.symm
  next => rfl

/-- L selects one byte or two (R101). -/
theorem byteCount_cases (f : UFields) : (f.l = 0 ∧ byteCount f = 1) ∨ (f.l = 1 ∧ byteCount f = 2) := by
  unfold byteCount
  bv_omega

/-- The first byte received is the high byte (R210). -/
theorem toNat_combine (b0 b1 : Byte) : (combine b0 b1).toNat = b0.toNat * 256 + b1.toNat := by
  have hlo : b1.toNat < 2 ^ 8 := b1.isLt
  rw [combine_append, BitVec.toNat_append, ← Nat.shiftLeft_add_eq_or_of_lt hlo, Nat.shiftLeft_eq]

/-- The right byte count gives the value of the bytes (R160). -/
theorem readValue_eq_some {f : UFields} {bs : List Byte} (h : bs.length = byteCount f) :
    ∃ v : HData, readValue f bs = some v ∧ v.toNat =
      if f.l = 1 then (bs.getD 0 0).toNat * 256 + (bs.getD 1 0).toNat else (bs.getD 0 0).toNat := by
  obtain ⟨hl, hc⟩ | ⟨hl, hc⟩ := byteCount_cases f
  · obtain ⟨b0, rfl⟩ := List.length_eq_one_iff.mp (h.trans hc)
    refine ⟨b0.zeroExtend 16, if_pos hc, ?_⟩
    have hone : f.l ≠ 1 := by rw [hl]; decide
    rw [if_neg hone]
    exact BitVec.toNat_setWidth_of_le (by decide)
  · obtain ⟨b0, b1, rfl⟩ := List.length_eq_two.mp (h.trans hc)
    refine ⟨combine b0 b1, if_pos hc, ?_⟩
    rw [if_pos hl]
    exact toNat_combine b0 b1

/-- Settles O34: BRD stages the value of the bytes in the slot A names (R160). -/
theorem brdStoresTheBytesItReceives : Obligations.BrdStoresTheBytesItReceives := by
  intro f s r bs hx hr hph hlen
  obtain ⟨v, hv, hval⟩ := readValue_eq_some hlen
  have hexec : exec (.uopBrd f) s = .next ((s.takeResponse.stageValue f.a v).setPhase false).retire := by
    rw [exec_uopBrd_dataResponse hx hr hph, completeData, hv]
  have h16 : BitVec.ofNat 16 v.toNat = v := by rw [BitVec.ofNat_toNat, BitVec.setWidth_eq]
  have h8 : BitVec.ofNat 8 v.toNat = v.extractLsb' 0 8 := by
    rw [BitVec.ofNat_toNat, BitVec.setWidth_eq_extractLsb' (by decide)]
  refine ⟨_, v.toNat, hexec, hval, fun ha => ?slot0, fun ha => ?slot1, fun ha => ?slot2, fun ha => ?slot3, rfl⟩
  case slot0 => rw [ha, h16]; rfl
  case slot1 => rw [ha, h16]; rfl
  case slot2 => rw [ha, h16]; rfl
  case slot3 => rw [ha, h8]; rfl

/-! ## Errors -/

/-- An error ends the outstanding request (R163): only XACT, the response port, LAST_ERR, BRD_PH and UPC differ. -/
theorem takeResponse_abort (s : State) (code : ErrCode) :
    s.takeResponse.abort code =
      { s with xact := .idle, xresp := none, lastErr := code, brdPh := false, upc := s.abortTarget } := rfl

/-- The abort tails of the two programs, at their ROM addresses (R104, R163). -/
theorem abortTarget_eq {s : State} {target : UAddr}
    (h : s.state = .measuring ∧ target = 0x13 ∨ s.state = .initializing ∧ target = 0x15) :
    s.abortTarget = target := by
  obtain ⟨hs, rfl⟩ | ⟨hs, rfl⟩ := h <;> rw [State.abortTarget, hs] <;> rfl

theorem abortTarget_of_busy {s : State} (hb : s.busy = true) :
    s.abortTarget = if s.state = .measuring then 0x13 else 0x15 := by
  obtain ⟨hs, ht⟩ | ⟨hs, ht⟩ := abortTarget_busy s hb <;> rw [ht, hs] <;> rfl

/-- Settles O32. -/
theorem busErrorAborts : Obligations.BusErrorAborts := by
  intro f s r target hx htarget
  rw [← abortTarget_eq htarget, ← takeResponse_abort]
  exact ⟨exec_uopBwr_response hx, exec_uopBrd_pointerResponse hx, exec_uopBrd_dataResponse hx⟩

/-- Settles O35. -/
theorem wrongByteCountAborts : Obligations.WrongByteCountAborts := by
  intro f s r bs target hx hr hph hlen htarget
  rw [exec_uopBrd_dataResponse hx hr hph, completeData, readValue_eq_none hlen, ← abortTarget_eq htarget,
    takeResponse_abort]

/-- An error answer to the request a micro-operation made aborts with BUS_ERROR (R155, R158, R162). -/
theorem exec_errorAnswer {i : Instr} {s : State} {r : Request} {a : Answer} (ha : a.ok = false)
    (hi : requestOf s.cfg i s.brdPh = some r) (hx : s.xact = .out r) (hr : s.xresp = some (responseTo r a)) :
    exec i s = .next (s.takeResponse.abort .busError) := by
  cases i with
  | uopBwr f =>
    rw [requestOf, Option.ite_none_left_eq_some] at hi
    cases hi.2
    rw [exec_uopBwr_response hx hr, writeRequest, responseTo_write, ha]; rfl
  | uopBrd f =>
    cases hph : s.brdPh with
    | false =>
      rw [requestOf, hph, if_neg Bool.false_ne_true] at hi
      cases hi
      rw [exec_uopBrd_pointerResponse hx hr hph, pointerRequest, responseTo_write, ha]; rfl
    | true =>
      rw [requestOf, hph, if_pos rfl] at hi
      cases hi
      rw [exec_uopBrd_dataResponse hx hr hph, dataRequest, responseTo_read, ha]; rfl
  | _ => cases hi

/-- Settles O47: the outstanding request is that of the micro-operation at UPC, and the program is one of the two that
have an abort tail. -/
theorem failedRequestLeavesTheSampleAlone : Obligations.FailedRequestLeavesTheSampleAlone := by
  intro s r a rest h hx ha htape
  obtain ⟨hb, hi⟩ := h.xact r hx
  rw [step_xport htape hx, ← abortTarget_of_busy hb, h.xresp]
  exact exec_errorAnswer ha hi hx rfl

/-! ## A request that is never answered -/

/-- While a program runs a host access leaves UPC as it is: no command that starts a program is accepted. -/
theorem HostEffect.upc_of_busy {s t : State} (hb : s.busy = true) (ht : HostEffect s t) : t.upc = s.upc := by
  cases ht with
  | init hs => simp [State.busy, hs, BlockState.busy] at hb
  | measure hs => simp [State.busy, hs, BlockState.busy] at hb
  | access | select | reject | release => rfl

/-- While a request is outstanding, no step but an answer or a reset touches it, UPC or the committed bank. -/
theorem StepEffect.frame_of_outstanding {s t : State} {r : Request} (hb : s.busy = true) (hx : s.xact = .out r)
    (hreset : s.nextEvent ≠ .reset) (hanswer : ∀ a, s.nextEvent ≠ .xport a) (ht : StepEffect s t) :
    t.xact = s.xact ∧ t.upc = s.upc ∧ t.committed = s.committed ∧ t.sched = s.takeEvent.sched := by
  cases ht with
  | host _ ht =>
    have hupc := ht.upc_of_busy (by simpa using hb)
    obtain ⟨hxact, -, -, -, -, hcommitted, -, -, -, hsched, -⟩ := ht.frame
    simp [hxact, hupc, hcommitted, hsched]
  | seq _ _ hidle => rw [hx] at hidle; cases hidle
  | seqPass | seqDiscard | tick => simp
  | xport he | xportPass he => exact absurd he (hanswer _)
  | reset he => exact absurd he hreset

/-- A tape without answers and resets leaves the outstanding request, UPC and the committed bank as they are. -/
theorem run_unanswered {r : Request} (es : List Event) (hes : ∀ e ∈ es, e ≠ .reset ∧ ∀ a, e ≠ .xport a)
    {s : State} (h : s.Inv) (hx : s.xact = .out r) (htape : s.sched = es) :
    ∃ t, run es.length s = .next t ∧ t.Inv ∧ t.xact = .out r ∧ t.upc = s.upc ∧ t.committed = s.committed := by
  induction es generalizing s with
  | nil => exact ⟨s, rfl, h, hx, rfl, rfl⟩
  | cons e es ih =>
    obtain ⟨he, hes⟩ := List.forall_mem_cons.mp hes
    rw [← State.nextEvent_cons _ _ _ htape] at he
    obtain ⟨u, hu⟩ := invariantStatesNeverStop s h
    obtain ⟨hxact, hupc, hcommitted, hsched⟩ :=
      (step_effect hu).frame_of_outstanding (h.xact r hx).1 hx he.1 he.2
    rw [State.takeEvent_cons _ _ _ htape] at hsched
    obtain ⟨t, ht, hinv, hout, hupc', hcommitted'⟩ :=
      ih hes (everyStepKeepsTheInvariant s u h hu) (hxact.trans hx) hsched
    exact ⟨t, (run_succ _ _ _ hu).trans ht, hinv, hout, hupc'.trans hupc, hcommitted'.trans hcommitted⟩

/-- Settles O52: the invariant keeps the block BUSY while the request is outstanding (R34). -/
theorem unansweredRequestHangsTheBlock : Obligations.UnansweredRequestHangsTheBlock := by
  intro s r es h hx hes
  have hstart : (s.withTape es).Inv := h.of_unread _ _ _ _ _ _
  obtain ⟨t, ht, hinv, hout, hupc, hcommitted⟩ := run_unanswered es hes hstart hx rfl
  exact ⟨t, ht, hout, (hinv.xact r hout).1, hupc, hcommitted⟩

end Sys2Proof.Machine

/-! # WAIT, END and the host while a program runs (42_timing_fsm.md) -/

namespace Sys2Proof.Machine

/-! ## WAIT and END, by their operands -/

/-- DSEL 0 is the settle delay and DSEL 1 the integration delay (R103). -/
theorem delayOf_eq_some {c : Config} {f : UFields} {n : Nat} (h : f.a = 0 ∧ n = c.nSettle ∨ f.a = 1 ∧ n = c.nInteg) :
    delayOf c f = some n := by
  obtain ⟨ha, rfl⟩ | ⟨ha, rfl⟩ := h <;> rw [delayOf, ha] <;> rfl

/-- A WAIT whose DSEL selects a delay takes its own step with that delay. -/
theorem exec_uopWait_own {f : UFields} {s : State} {n : Nat} (hn : delayOf s.cfg f = some n) (hx : s.xact = .idle)
    (hr : s.xresp = none) : exec (.uopWait f) s = waitStep n s := by
  rw [exec, execUopWait, hn]; exact sequenced_own hx hr

section
variable {f : UFields} {s : State} {n : Nat} (hn : delayOf s.cfg f = some n) (hx : s.xact = .idle) (hr : s.xresp = none)
include hn hx hr

theorem exec_uopWait_unarmed (ha : s.tarmed = false) : exec (.uopWait f) s = .next (s.armTimer n) := by
  rw [exec_uopWait_own hn hx hr, waitStep, ha]; rfl

theorem exec_uopWait_expired (ha : s.tarmed = true) (hc : s.tcnt = 0) :
    exec (.uopWait f) s = .next s.disarmTimer.retire := by
  rw [exec_uopWait_own hn hx hr, waitStep, if_pos ha, if_pos hc]

theorem exec_uopWait_counting (ha : s.tarmed = true) (hc : s.tcnt ≠ 0) : exec (.uopWait f) s = .next s := by
  rw [exec_uopWait_own hn hx hr, waitStep, if_pos ha, if_neg hc]

end

/-- Settles O37: the three branches of WAIT's own step. -/
theorem waitArmsAndRetires : Obligations.WaitArmsAndRetires := fun _ _ _ hx hr hsel =>
  have hn := delayOf_eq_some hsel
  ⟨exec_uopWait_unarmed hn hx hr, exec_uopWait_expired hn hx hr,
    fun ha hc => exec_uopWait_counting hn hx hr ha (Nat.pos_iff_ne_zero.mp hc)⟩

/-- Next state 2 is READY (R102). -/
theorem endState_ready {f : UFields} (h : f.data.toNat % 8 = 2) : endState f = some .ready :=
  if_pos (BitVec.eq_of_toNat_eq (y := 2) ((toNat_nextState f).trans h))

/-- Next state 4 is FAILED (R102). -/
theorem endState_failed {f : UFields} (h : f.data.toNat % 8 = 4) : endState f = some .failed := by
  have h4 : f.data.extractLsb' 0 3 = 4 := BitVec.eq_of_toNat_eq ((toNat_nextState f).trans h)
  rw [endState, h4]; rfl

/-- An END with a next state of R102 ends the program in it. -/
theorem exec_uopEnd_own {f : UFields} {s : State} {st : BlockState} (hst : endState f = some st) (hx : s.xact = .idle)
    (hr : s.xresp = none) : exec (.uopEnd f) s = .next (s.endProgram st) := by
  rw [exec, execUopEnd, hst]; exact sequenced_own hx hr

/-- Settles O39. -/
theorem endSetsTheNextState : Obligations.EndSetsTheNextState := fun _ _ hx hr =>
  ⟨fun h => exec_uopEnd_own (endState_ready h) hx hr, fun h => exec_uopEnd_own (endState_failed h) hx hr⟩

/-! ## Host accesses while a program runs -/

/-- While a program runs no command starts or closes anything, so an access writes CMD_REJ, SEL and the read data only. -/
theorem HostEffect.frame_of_busy {s t : State} (hb : s.busy = true) (h : HostEffect s t) :
    t = { s with cmdRej := t.cmdRej, sel := t.sel, rdata := t.rdata } := by
  cases h with
  | access | select | reject => rfl
  | init hs => simp [State.busy, hs, BlockState.busy] at hb
  | measure hs => simp [State.busy, hs, BlockState.busy] at hb
  | release hs => rcases hs with hs | hs | hs <;> simp [State.busy, hs, BlockState.busy] at hb

/-- Whatever its code, a write of CMD is rejected while a program runs (R93, R242). -/
theorem exec_command_of_busy {w : HWord} (hw : w.getLsbD 20 = true) (ha : w.extractLsb' 16 4 = 0x0) {s : State}
    (hb : s.busy = true) : exec (decodeHost w) s = .next { s with cmdRej := true, rdata := none } := by
  obtain ⟨b, a, hi, code, rfl⟩ := exists_hostWord w
  rw [hostWord_write] at hw
  rw [hostWord_offset] at ha
  have hs := busy_states hb
  rw [hw, ha, decodeHost_command]
  split_ifs with h1 h2 h3
  · exact (initStartsTheProgramOrIsRejected hi s).2 (by rcases hs with hs | hs <;> rw [hs] <;> nofun)
  · exact (measureStartsTheProgramOrIsRejected hi s).2 (by rcases hs with hs | hs <;> rw [hs] <;> nofun)
  · exact (releaseClosesOrIsRejected hi s).2 (hs.imp_right .inl)
  · exact reservedCommandIsRejected _ s

/-- Settles O25. -/
theorem noHostAccessDisturbsAProgram : Obligations.NoHostAccessDisturbsAProgram := by
  intro s w rest htape hb
  rw [step_host htape]
  obtain ⟨t, ht, heffect⟩ := exec_hostEffect (decodeHost_space w) { s with sched := rest, rdata := none }
  refine ⟨t, ht, heffect.frame_of_busy (s := { s with sched := rest, rdata := none }) hb, fun hw ha => ?_⟩
  have hreject := exec_command_of_busy hw ha (s := { s with sched := rest, rdata := none }) hb
  cases ht.symm.trans hreject; rfl

end Sys2Proof.Machine

/-! # Runs along a tape (42_timing_fsm.md sections 1 and 3) -/

namespace Sys2Proof.Machine

/-- `k` steps lead from one state to another, issue the requests listed and count that many ticks. -/
inductive Takes : Nat → State → State → List Request → Nat → Prop
  | refl (s : State) : Takes 0 s s [] 0
  | step {k n : Nat} {s t u : State} {rs : List Request} (hstep : step s = .next t) (ht : Takes k t u rs n) :
      Takes (k + 1) s u ((requestIssued s t).toList ++ rs) ((if s.nextEvent = .tick then 1 else 0) + n)

namespace Takes

variable {j k m n : Nat} {s t u : State} {rs rs' : List Request}

theorem run_eq (h : Takes k s t rs n) : Machine.run k s = .next t := by
  induction h with
  | refl s => exact run_zero s
  | step hstep _ ih => exact (run_succ _ _ _ hstep).trans ih

theorem busTrace_eq (h : Takes k s t rs n) : busTrace k s = rs := by
  induction h with
  | refl s => rfl
  | step hstep _ ih => rw [busTrace, hstep, ← ih]

theorem ticksIn_eq (h : Takes k s t rs n) : ticksIn k s = n := by
  induction h with
  | refl s => rfl
  | step hstep _ ih => rw [ticksIn, hstep, ← ih]

theorem trans (h : Takes j s t rs m) (h' : Takes k t u rs' n) : Takes (j + k) s u (rs ++ rs') (m + n) := by
  induction h with
  | refl s => simpa only [Nat.zero_add, List.nil_append] using h'
  | step hstep _ ih =>
    rw [Nat.succ_add, List.append_assoc, Nat.add_assoc]
    exact .step hstep (ih h')

/-- A step that is no TICK and leaves XACT as it is counts nothing and issues nothing. -/
theorem quiet (hstep : Machine.step s = .next t) (he : s.nextEvent ≠ .tick) (hx : t.xact = s.xact)
    (ht : Takes k t u rs n) : Takes (k + 1) s u rs n := by
  have h := Takes.step hstep ht
  rwa [requestIssued_same hx, if_neg he, Nat.zero_add] at h

end Takes

/-! ## Ticks -/

/-- The state after `k` TICK steps that leave `rest` on the tape (R184). -/
def State.ticked (s : State) (k : Nat) (rest : List Event) : State :=
  { s with tcnt := if s.tarmed then s.tcnt - k else s.tcnt, rdata := if k = 0 then s.rdata else none, sched := rest }

theorem State.ticked_zero {s : State} {rest : List Event} (htape : s.sched = rest) : s.ticked 0 rest = s := by
  subst htape; simp [ticked]

theorem State.ticked_one_ticked (s : State) (k : Nat) (rest rest' : List Event) :
    (s.ticked 1 rest').ticked k rest = s.ticked (k + 1) rest := by
  cases ha : s.tarmed <;> simp [ticked, ha, Nat.sub_sub, Nat.add_comm]

/-- A TICK step is enabled in every state. -/
theorem step_tick {s : State} {rest : List Event} (htape : s.sched = .tick :: rest) :
    step s = .next (s.ticked 1 rest) := by
  rw [step, State.nextEvent_cons _ _ _ htape, State.takeEvent_cons _ _ _ htape]; rfl

theorem Takes.tick {k n : Nat} {s u : State} {rs : List Request} {rest : List Event}
    (htape : s.sched = .tick :: rest) (ht : Takes k (s.ticked 1 rest) u rs n) : Takes (k + 1) s u rs (n + 1) := by
  have h := Takes.step (step_tick htape) ht
  have hnone : requestIssued s (s.ticked 1 rest) = none := requestIssued_same rfl
  rwa [hnone, State.nextEvent_cons _ _ _ htape, if_pos rfl, Nat.add_comm 1 n] at h

/-- TICK steps in a row add up; they issue nothing. -/
theorem takes_ticks (k : Nat) {s : State} {rest : List Event} (htape : s.sched = List.replicate k .tick ++ rest) :
    Takes k s (s.ticked k rest) [] k := by
  induction k generalizing s with
  | zero => rw [State.ticked_zero (by simpa using htape)]; exact .refl s
  | succ k ih => rw [← State.ticked_one_ticked]; exact .tick htape (ih rfl)

/-- Settles O38. -/
theorem ticksCountDown : Obligations.TicksCountDown := by
  intro s k
  have h : Takes k (s.withTape (List.replicate k .tick)) (s.ticked k []) [] k := takes_ticks k (List.append_nil _).symm
  refine ⟨s.ticked k [], ?_, rfl, rfl⟩
  rw [runTape, List.length_replicate, h.run_eq]

/-! ## How long a WAIT lasts -/

/-- While a WAIT counts, only a TICK step takes from TCNT, and only a retirement with TCNT = 0 or a reset disarms. -/
theorem StepEffect.of_armed {s t : State} (ha : s.tarmed = true) (he : s.nextEvent ≠ .reset) (h : StepEffect s t) :
    (t.tarmed = true ∧ s.tcnt ≤ (if s.nextEvent = .tick then 1 else 0) + t.tcnt) ∨ s.tcnt = 0 := by
  cases h with
  | host _ ht =>
    obtain ⟨-, -, harmed, hcount, -⟩ := ht.frame
    exact .inl (by simp [harmed, hcount, ha])
  | seq _ _ _ _ ht =>
    cases ht with
    | expire _ _ hc => exact .inr (by simpa using hc)
    | arm _ _ hidle => simp [ha] at hidle
    | issue | counting | commit | finish => exact .inl (by simp [ha])
  | xport _ _ ht => cases ht <;> exact .inl (by simp [ha])
  | seqPass | seqDiscard | xportPass => exact .inl (by simp [ha])
  | tick htick => exact .inl (by simp [ha, htick]; omega)
  | reset hreset => exact absurd hreset he

theorem waitRetiresIn_step {s t : State} (hstep : step s = .next t) (k : Nat) :
    waitRetiresIn (k + 1) s = true ↔
      s.nextEvent ≠ .reset ∧ (s.tarmed = true ∧ t.tarmed = false ∨ waitRetiresIn k t = true) := by
  rw [waitRetiresIn, hstep]
  simp

theorem ticksIn_step {s t : State} (hstep : step s = .next t) (k : Nat) :
    ticksIn (k + 1) s = (if s.nextEvent = .tick then 1 else 0) + ticksIn k t := by
  rw [ticksIn, hstep]

/-- Settles O42. -/
theorem waitLastsItsTicks : Obligations.WaitLastsItsTicks := by
  intro k
  induction k with
  | zero => exact fun s _ hret => absurd hret Bool.false_ne_true
  | succ k ih =>
    intro s ha hret
    cases hstep : step s with
    | fault r => rw [waitRetiresIn, hstep] at hret; cases hret
    | refused r => rw [waitRetiresIn, hstep] at hret; cases hret
    | next t =>
      obtain ⟨he, hret⟩ := (waitRetiresIn_step hstep k).mp hret
      rw [ticksIn_step hstep]
      obtain ⟨harmed, hcount⟩ | hzero := (step_effect hstep).of_armed ha he
      · have hrest := ih t harmed (hret.resolve_left fun hdone => absurd (hdone.2.symm.trans harmed) nofun)
        omega
      · omega

/-- The delays the source gives, in milliseconds (R10). -/
theorem sourceValues_delays {c : Config} (h : c.sourceValues = true) : c.tSettleMs = 150 ∧ c.tIntegMs = 3000 := by
  rw [beq_iff_eq.mp h]; exact ⟨rfl, rfl⟩

/-- R187, with the source's delays. -/
theorem conforming_delays {c : Config} (hsrc : c.sourceValues = true) (hc : c.conforming = true) :
    150 * c.fTick + 1000 ≤ 1000 * c.nSettle ∧ 3000 * c.fTick + 1000 ≤ 1000 * c.nInteg := by
  obtain ⟨hsettle, hinteg⟩ := sourceValues_delays hsrc
  simpa [Config.conforming, hsettle, hinteg] using hc

/-- Settles O43: the ticks are those of O42, and R187 makes them enough. -/
theorem conformingWaitsMeetTheDelays : Obligations.ConformingWaitsMeetTheDelays := by
  intro k s hsrc hconf ha hret
  have hticks := waitLastsItsTicks k s ha hret
  obtain ⟨hsettle, hinteg⟩ := conforming_delays hsrc hconf
  exact ⟨fun hc => by omega, fun hc => by omega⟩

end Sys2Proof.Machine

/-! # The two programs, run to their end (42_timing_fsm.md section 3) -/

namespace Sys2Proof.Machine

/-! ## From one micro-operation to the next -/

/-- The block between two micro-operations: nothing of one is in progress, the two ports are empty, and the tape is `es`. -/
def State.between (s : State) (es : List Event) : State :=
  { s with brdPh := false, xact := .idle, tarmed := false, tcnt := 0, xresp := none, rdata := none, sched := es }

/-- With nothing in progress, a state differs from `between` in its tape and the read data only. -/
theorem State.AtRest.between_eq {s : State} (q : s.AtRest) (hr : s.xresp = none) (es : List Event) :
    s.between es = { s with rdata := none, sched := es } := by
  obtain ⟨hp, hx, ha, hc⟩ := q
  simp only [State.between, hp, hx, ha, hc, hr]

/-- The events `es` lead from one point between micro-operations to another, whatever follows on the tape. -/
def Plays (es : List Event) (s t : State) (rs : List Request) (n : Nat) : Prop :=
  ∀ rest, Takes es.length (s.between (es ++ rest)) (t.between rest) rs n

theorem Plays.append {es es' : List Event} {s t u : State} {rs rs' : List Request} {m n : Nat}
    (h : Plays es s t rs m) (h' : Plays es' t u rs' n) : Plays (es ++ es') s u (rs ++ rs') (m + n) := by
  intro rest
  rw [List.length_append, List.append_assoc]
  exact (h _).trans (h' rest)

theorem Plays.congr {es : List Event} {s t : State} {rs rs' : List Request} {m n : Nat} (h : Plays es s t rs m)
    (hrs : rs = rs') (hn : m = n) : Plays es s t rs' n :=
  hrs ▸ hn ▸ h

/-- A SEQ step in which the micro-operation at UPC answers a state. -/
theorem step_seq_next {s t : State} {i : Instr} {rest : List Event} (htape : s.sched = .seq :: rest) (hb : s.busy = true)
    (hx : s.xact = .idle) (hf : fetched s = i) (hexec : exec i { s with sched := rest, rdata := none } = .next t) :
    step s = .next t := by
  rw [step_seq htape hb hx, hf, hexec]

/-- A SEQ step issues the request `r`, and an XPORT step delivers its answer `a`. -/
theorem takes_exchange {s t : State} {i : Instr} {r : Request} {a : Answer} {rest : List Event}
    (htape : s.sched = exchange a ++ rest) (hb : s.busy = true) (hx : s.xact = .idle) (hf : fetched s = i)
    (hissue : exec i { s with sched := .xport a :: rest, rdata := none } =
      .next { s with xact := .out r, sched := .xport a :: rest, rdata := none })
    (hdone : exec i { s with xact := .out r, xresp := some (responseTo r a), sched := rest, rdata := none } = .next t) :
    Takes 2 s t [r] 0 := by
  have hfirst := step_seq_next htape hb hx hf hissue
  have hsecond : step { s with xact := .out r, sched := .xport a :: rest, rdata := none } = .next t := by
    rw [step_xport rfl rfl, ← hdone, ← hf]; rfl
  have h := Takes.step hfirst (.step hsecond (.refl t))
  have hnew : requestIssued s { s with xact := .out r, sched := .xport a :: rest, rdata := none } = some r := by
    rw [requestIssued, hx]
  have hnone : requestIssued { s with xact := .out r, sched := .xport a :: rest, rdata := none } t = none :=
    requestIssued_out rfl
  simpa [hnew, hnone, State.nextEvent, htape, exchange] using h

/-- The block while the WAIT at UPC has `n` ticks to count. -/
def State.counting (s : State) (n : Nat) (es : List Event) : State := (s.between es).armTimer n

theorem State.counting_ticked (s : State) (n : Nat) (es rest : List Event) :
    (s.counting n es).ticked n rest = s.counting 0 rest := by
  simp [ticked, counting, between, armTimer]

section
variable {s t : State} {i : Instr} {f : UFields} (hb : s.busy = true)
include hb

/-- A micro-operation that takes one SEQ step and issues nothing. -/
theorem plays_seq (hf : fetched s = i) (hexec : ∀ rest, exec i (s.between rest) = .next (t.between rest)) :
    Plays [.seq] s t [] 0 :=
  fun rest => .step (step_seq_next (s := s.between ([.seq] ++ rest)) rfl hb rfl hf (hexec rest)) (.refl _)

/-- A WAIT arms, counts its delay, and retires (R183 to R185). -/
theorem plays_wait (hf : fetched s = .uopWait f) {n : Nat} (hn : delayOf s.cfg f = some n) :
    Plays (waitTape n) s s.retire [] n := by
  intro rest
  have harm : step (s.between (.seq :: (List.replicate n .tick ++ .seq :: rest))) =
      .next (s.counting n (List.replicate n .tick ++ .seq :: rest)) :=
    step_seq_next rfl hb rfl hf (exec_uopWait_unarmed (s := s.between _) hn rfl rfl rfl)
  have hcount : Takes n (s.counting n (List.replicate n .tick ++ .seq :: rest)) (s.counting 0 (.seq :: rest)) [] n :=
    s.counting_ticked n _ _ ▸ takes_ticks n rfl
  have hexpire : step (s.counting 0 (.seq :: rest)) = .next (s.retire.between rest) :=
    step_seq_next rfl hb rfl hf (exec_uopWait_expired (s := s.counting 0 rest) hn rfl rfl rfl rfl)
  have h := Takes.quiet harm nofun rfl (hcount.trans (.quiet hexpire nofun rfl (.refl _)))
  simpa [waitTape] using h

/-- A BWR whose write is answered WOk (R153, R154). -/
theorem plays_bwr (hf : fetched s = .uopBwr f) :
    Plays (exchange okAnswer) s s.retire [.write s.cfg.devAddr [f.reg, f.data]] 0 :=
  fun _ => takes_exchange rfl hb rfl hf rfl rfl

/-- A BRD whose pointer write is answered WOk and whose read brings bytes of the right count (R156 to R160). -/
theorem plays_brd (hf : fetched s = .uopBrd f) {bs : List Byte} {v : HData} (hv : readValue f bs = some v) :
    Plays (readExchange bs) s (s.stageValue f.a v).retire
      [.write s.cfg.devAddr [f.reg], .read s.cfg.devAddr (byteCount f)] 0 := by
  intro rest
  have hpointed : Takes 2 (s.between (readExchange bs ++ rest)) ((s.between (exchange ⟨true, bs⟩ ++ rest)).setPhase true)
      [.write s.cfg.devAddr [f.reg]] 0 := takes_exchange rfl hb rfl hf rfl rfl
  have hdata : Takes 2 ((s.between (exchange ⟨true, bs⟩ ++ rest)).setPhase true) ((s.stageValue f.a v).retire.between rest)
      [.read s.cfg.devAddr (byteCount f)] 0 := by
    refine takes_exchange rfl hb rfl hf rfl ?_
    rw [exec_uopBrd_dataResponse rfl rfl rfl, responseTo_read, if_pos rfl, completeData, hv]; rfl
  exact hpointed.trans hdata

end

/-! ## The listing's micro-operations at their addresses -/

/-- The running program at ROM address `k`, with `b` in the staging bank. -/
def State.point (s : State) (k : Nat) (b : Bank) : State := { s with upc := BitVec.ofNat 5 k, staging := b }

theorem State.point_retire (s : State) (k : Nat) (b : Bank) : (s.point k b).retire = s.point (k + 1) b := by
  rw [point, point, BitVec.ofNat_add]; rfl

/-- The bank with `v` in a slot; S3 takes `v[7:0]` (R160). -/
def Bank.put (b : Bank) (slot : BitVec 2) (v : HData) : Bank :=
  if slot = 0 then { b with vbus := v }
  else if slot = 1 then { b with vsense := v }
  else if slot = 2 then { b with vpower := v }
  else { b with ovf := v.extractLsb' 0 8 }

theorem State.point_stageValue_retire (s : State) (k : Nat) (b : Bank) (slot : BitVec 2) (v : HData) :
    ((s.point k b).stageValue slot v).retire = s.point (k + 1) (b.put slot v) :=
  s.point_retire k (b.put slot v)

/-- The four reads of a MEASURE fill the bank. -/
theorem Bank.put_all (b : Bank) (vbus vsense vpower : HData) (ovf : Byte) :
    (((b.put 0 vbus).put 1 vsense).put 2 vpower).put 3 (ovf.zeroExtend 16) = ⟨vbus, vsense, vpower, ovf⟩ := by
  have hovf : (ovf.zeroExtend 16).extractLsb' 0 8 = ovf := by
    rw [← BitVec.setWidth_eq_extractLsb' (by decide)]; simp
  simp [put, hovf]

/-- The running program after a COMMIT of the bank `b` (R212). -/
def State.published (s : State) (b : Bank) : State := { s with committed := b, valid := true }

@[simp] theorem State.published_cfg (s : State) (b : Bank) : (s.published b).cfg = s.cfg := rfl

section
variable {s : State} (h : s.built) (hb : s.busy = true) (k : Nat) {b : Bank}

include h in
/-- What is fetched at an address of the listing (R104). -/
theorem fetched_point : fetched (s.point k b) = listed s.cfg (k % 32) :=
  (fetched_built (s := s.point k b) h).trans (congrArg _ (BitVec.toNat_ofNat k 5))

include h hb

theorem plays_waitAt {f : UFields} (hl : listed s.cfg (k % 32) = .uopWait f) {n : Nat} (hn : delayOf s.cfg f = some n) :
    Plays (waitTape n) (s.point k b) (s.point (k + 1) b) [] n := by
  rw [← s.point_retire]; exact plays_wait (s := s.point k b) hb ((fetched_point h k).trans hl) hn

theorem plays_bwrAt {f : UFields} (hl : listed s.cfg (k % 32) = .uopBwr f) :
    Plays (exchange okAnswer) (s.point k b) (s.point (k + 1) b) [.write s.cfg.devAddr [f.reg, f.data]] 0 := by
  rw [← s.point_retire]; exact plays_bwr (s := s.point k b) hb ((fetched_point h k).trans hl)

theorem plays_brdAt {f : UFields} (hl : listed s.cfg (k % 32) = .uopBrd f) {bs : List Byte} {v : HData}
    (hv : readValue f bs = some v) :
    Plays (readExchange bs) (s.point k b) (s.point (k + 1) (b.put f.a v))
      [.write s.cfg.devAddr [f.reg], .read s.cfg.devAddr (byteCount f)] 0 := by
  rw [← s.point_stageValue_retire]; exact plays_brd (s := s.point k b) hb ((fetched_point h k).trans hl) hv

theorem plays_commitAt {f : UFields} (hl : listed s.cfg (k % 32) = .uopCommit f) :
    Plays [.seq] (s.point k b) ((s.published b).point (k + 1) b) [] 0 := by
  rw [← State.point_retire]; exact plays_seq (s := s.point k b) hb ((fetched_point h k).trans hl) fun _ => rfl

theorem plays_endReadyAt (hl : listed s.cfg (k % 32) = .uopEnd ⟨0, 0, 0, 2⟩) :
    Plays [.seq] (s.point k b) ((s.point k b).endProgram .ready) [] 0 :=
  plays_seq (s := s.point k b) hb ((fetched_point h k).trans hl) fun _ => rfl

end

/-! ## INIT and MEASURE -/

/-- A command on the tape starts a program, and the events behind it play the program. -/
theorem takes_command {s u t : State} {w : HWord} {es : List Event} {rs : List Request} {n : Nat} (hx : s.xact = .idle)
    (hcmd : exec (decodeHost w) { s with sched := es, rdata := none } = .next (u.between es))
    (hplay : Plays es u t rs n) :
    Takes (es.length + 1) (s.withTape (.host w :: es)) (t.between []) rs n := by
  have h := hplay []
  rw [List.append_nil] at h
  exact .quiet ((step_host rfl).trans hcmd) nofun hx.symm h

/-- The value of a two-byte channel read (R160). -/
theorem readValue_channel {c : Config} (h : c.lenChannel = 2) {a : BitVec 2} {reg : Byte} (b0 b1 : Byte) :
    readValue ⟨a, BitVec.ofNat 1 (c.lenChannel - 1), reg, 0⟩ [b0, b1] = some (combine b0 b1) := by
  rw [h]; rfl

/-- The value of the one-byte overflow read (R160). -/
theorem readValue_ovf {c : Config} (h : c.lenOvf = 1) {a : BitVec 2} {reg : Byte} (b : Byte) :
    readValue ⟨a, BitVec.ofNat 1 (c.lenOvf - 1), reg, 0⟩ [b] = some (b.zeroExtend 16) := by
  rw [h]; rfl

/-- STATUS in READY, with the bus held and no flag set (R94). -/
theorem statusWord_ready {s : State} (hs : s.state = .ready) (hown : s.busOwn = true) (herr : s.lastErr = .noError)
    (hrej : s.cmdRej = false) : s.statusWord = if s.valid then 0x0112 else 0x0102 := by
  rw [State.statusWord, State.busy, hs, hown, herr, hrej]
  cases s.valid <;> rfl

/-- The block when INIT has been accepted (R121). -/
def State.initStart (s : State) : State := ((s.startProgram .initializing initEntry).setBusOwn true).clearFlags

@[simp] theorem State.initStart_cfg (s : State) : s.initStart.cfg = s.cfg := rfl

/-- The INIT program, micro-operation by micro-operation (R189). -/
theorem plays_init {s : State} (h : s.built) (hsrc : s.cfg.sourceValues = true) :
    Plays (initTape s.cfg).tail s.initStart ((s.initStart.point 0x04 s.staging).endProgram .ready)
      [.write 0x4C [s.cfg.regGain, 0x01], .write 0x4C [s.cfg.regCtrl, 0x02]] (2 * s.cfg.nSettle) := by
  have hb : s.initStart.built := h
  have hwrite0 : Plays _ s.initStart _ _ _ := plays_bwrAt (b := s.staging) hb rfl 0x00 rfl
  have hwait0 := hwrite0.append (plays_waitAt hb rfl 0x01 rfl rfl)
  have hwrite1 := hwait0.append (plays_bwrAt hb rfl 0x02 rfl)
  have hwait1 := hwrite1.append (plays_waitAt hb rfl 0x03 rfl rfl)
  have hend := hwait1.append (plays_endReadyAt hb rfl 0x04 rfl)
  obtain ⟨hdev, hgain, hctrl, -⟩ := sourceValues_fields hsrc
  refine hend.congr ?requests ?ticks
  case requests => simp [hdev, hgain, hctrl]
  case ticks => simp only [State.initStart_cfg]; omega

theorem exec_hostInit {s : State} (h : s.Inv) (hs : s.state = .uninit) (es : List Event) :
    exec (decodeHost hostInit) { s with sched := es, rdata := none } = .next (s.initStart.between es) := by
  have q := h.atRest_of_not_busy (by rw [State.busy, hs]; rfl)
  have hstart : s.initStart.AtRest := ⟨rfl, q.xact, q.tarmed, q.tcnt⟩
  rw [hstart.between_eq h.xresp]
  exact (initStartsTheProgramOrIsRejected 0 { s with sched := es, rdata := none }).1 hs

/-- Settles O53. -/
theorem initProgramReachesReady : Obligations.InitProgramReachesReady := by
  intro s h hsrc hs
  have q := h.atRest_of_not_busy (by rw [State.busy, hs]; rfl)
  have hvalid : s.valid = false := by simpa [validFits, hs] using h.valid
  have hrun := takes_command q.xact (exec_hostInit h hs _) (plays_init h.built hsrc)
  exact ⟨_, hrun.run_eq, rfl, rfl, rfl, rfl, hvalid, rfl,
    (statusWord_ready rfl rfl rfl rfl).trans (if_neg (Bool.eq_false_iff.mp hvalid)), hrun.busTrace_eq, hrun.ticksIn_eq⟩

/-- The block when MEASURE has been accepted (R122). -/
def State.measureStart (s : State) : State := (s.startProgram .measuring measEntry).clearFlags

@[simp] theorem State.measureStart_cfg (s : State) : s.measureStart.cfg = s.cfg := rfl

theorem exec_hostMeasure {s : State} (h : s.Inv) (hs : s.state = .ready) (es : List Event) :
    exec (decodeHost hostMeasure) { s with sched := es, rdata := none } = .next (s.measureStart.between es) := by
  have q := h.atRest_of_not_busy (by rw [State.busy, hs]; rfl)
  have hstart : s.measureStart.AtRest := ⟨rfl, q.xact, q.tarmed, q.tcnt⟩
  rw [hstart.between_eq h.xresp]
  exact (measureStartsTheProgramOrIsRejected 0 { s with sched := es, rdata := none }).1 hs

/-- The MEASURE program, micro-operation by micro-operation (R190): it ends in READY with the bytes in the committed bank. -/
theorem plays_measure {s : State} (h : s.built) (hsrc : s.cfg.sourceValues = true) (b0 b1 v0 v1 p0 p1 o : Byte)
    {bank : Bank} (hbank : bank = ⟨combine b0 b1, combine v0 v1, combine p0 p1, o⟩) :
    Plays (measureTape s.cfg [b0, b1] [v0, v1] [p0, p1] [o]).tail s.measureStart
      (((s.measureStart.published bank).point 0x12 bank).endProgram .ready)
      [.write 0x4C [s.cfg.regInteg, 0x3F], .write 0x4C [s.cfg.regInteg, 0x3E], .write 0x4C [0x10], .read 0x4C 2,
       .write 0x4C [0x12], .read 0x4C 2, .write 0x4C [0x1D], .read 0x4C 2, .write 0x4C [0x1C], .read 0x4C 1]
      (5 * s.cfg.nSettle + s.cfg.nInteg) := by
  obtain ⟨hdev, -, -, harm, hstart, hvbus, hvsense, hvpower, hovf, hchannel, hlen⟩ := sourceValues_fields hsrc
  have hb : s.measureStart.built := h
  have hwrite0 : Plays _ s.measureStart _ _ _ := plays_bwrAt (b := s.staging) hb rfl 0x05 rfl
  have hwait0 := hwrite0.append (plays_waitAt hb rfl 0x06 rfl rfl)
  have hwrite1 := hwait0.append (plays_bwrAt hb rfl 0x07 rfl)
  have hinteg := hwrite1.append (plays_waitAt hb rfl 0x08 rfl rfl)
  have hread0 := hinteg.append (plays_brdAt hb rfl 0x09 rfl (readValue_channel hchannel b0 b1))
  have hwait2 := hread0.append (plays_waitAt hb rfl 0x0A rfl rfl)
  have hread1 := hwait2.append (plays_brdAt hb rfl 0x0B rfl (readValue_channel hchannel v0 v1))
  have hwait3 := hread1.append (plays_waitAt hb rfl 0x0C rfl rfl)
  have hread2 := hwait3.append (plays_brdAt hb rfl 0x0D rfl (readValue_channel hchannel p0 p1))
  have hwait4 := hread2.append (plays_waitAt hb rfl 0x0E rfl rfl)
  have hread3 := hwait4.append (plays_brdAt hb rfl 0x0F rfl (readValue_ovf hlen o))
  rw [Bank.put_all, ← hbank] at hread3
  have hb' : (s.measureStart.published bank).built := h
  have hcommit := hread3.append (plays_commitAt hb rfl 0x10 rfl)
  have hwait5 := hcommit.append (plays_waitAt hb' rfl 0x11 rfl rfl)
  have hend := hwait5.append (plays_endReadyAt hb' rfl 0x12 rfl)
  refine hend.congr ?requests ?ticks
  case requests => simp [hdev, harm, hstart, hvbus, hvsense, hvpower, hovf, hchannel, hlen, byteCount]
  case ticks => simp only [State.measureStart_cfg, State.published_cfg]; omega

/-- Settles O54. -/
theorem measureProgramCommitsTheBytes : Obligations.MeasureProgramCommitsTheBytes := by
  rintro s b0 b1 v0 v1 p0 p1 o _ h hsrc hs rfl
  have q := h.atRest_of_not_busy (by rw [State.busy, hs]; rfl)
  have hown : s.busOwn = true := by rw [h.busOwn, hs]; rfl
  have hrun := takes_command q.xact (exec_hostMeasure h hs _) (plays_measure h.built hsrc b0 b1 v0 v1 p0 p1 o rfl)
  refine ⟨_, hrun.run_eq, rfl, hown, rfl, rfl, rfl, rfl, rfl, (statusWord_ready rfl ?own rfl rfl).trans (if_pos rfl),
    toNat_combine b0 b1, toNat_combine v0 v1, toNat_combine p0 p1, rfl, hrun.busTrace_eq, hrun.ticksIn_eq⟩
  case own => exact hown

end Sys2Proof.Machine

/-! # The spacing of requests (42_timing_fsm.md section 3, R191) -/

namespace Sys2Proof.Machine

/-- After a register access the listing has a WAIT, or COMMIT and then a WAIT (R104). -/
theorem listed_succ_kind (c : Config) (a : Nat)
    (hk : (listed c a).kind = .write ∨ (listed c a).kind = .read ∨ (listed c a).kind = .commit) :
    (listed c (a + 1)).kind = .wait ∨ (listed c (a + 1)).kind = .commit := by
  unfold listed at hk
  split at hk <;> simp [listed] at hk ⊢

/-- A request has been made since a WAIT last retired: where the block can be then. -/
inductive AwaitsWait (s : State) : Prop
  /-- The request is outstanding, or was the pointer write of a BRD whose data read is still to come. -/
  | request (hb : s.busy = true) (hk : (fetched s).kind = .write ∨ (fetched s).kind = .read)
      (hp : s.xact ≠ .idle ∨ s.brdPh = true)
  /-- The WAIT is next, or COMMIT before it. -/
  | wait (hb : s.busy = true) (hk : (fetched s).kind = .wait ∨ (fetched s).kind = .commit)
  /-- INIT has failed: its abort tail has no WAIT, and no program can start after it. -/
  | abort (hs : s.state = .initializing) (hu : s.upc = iAbort)
  | ended (hs : s.state = .failed ∨ s.state = .closed)

namespace AwaitsWait

variable {s t : State}

/-- The fields it speaks of. -/
theorem congr (h : AwaitsWait s) (hrom : t.rom = s.rom) (hupc : t.upc = s.upc) (hstate : t.state = s.state)
    (hx : t.xact = s.xact) (hph : t.brdPh = s.brdPh) : AwaitsWait t := by
  have hf : fetched t = fetched s := fetched_congr hrom hupc
  have hb : t.busy = s.busy := congrArg BlockState.busy hstate
  cases h with
  | request hbusy hk hp => exact .request (hb ▸ hbusy) (hf ▸ hk) (hx ▸ hph ▸ hp)
  | wait hbusy hk => exact .wait (hb ▸ hbusy) (hf ▸ hk)
  | abort hs hu => exact .abort (hstate ▸ hs) (hupc ▸ hu)
  | ended hs => exact .ended (hstate ▸ hs)

/-- No command that starts a program is accepted. -/
theorem not_startable (h : AwaitsWait s) : s.state ≠ .uninit ∧ s.state ≠ .ready := by
  cases h with
  | request hb | wait hb => rcases busy_states hb with hs | hs <;> simp [hs]
  | abort hs => simp [hs]
  | ended hs => rcases hs with hs | hs <;> simp [hs]

/-- A register access or COMMIT retires to a WAIT, or to COMMIT. -/
theorem of_retire (h : s.built) (hb : s.busy = true)
    (hk : (fetched s).kind = .write ∨ (fetched s).kind = .read ∨ (fetched s).kind = .commit) (hrom : t.rom = s.rom)
    (hstate : t.state = s.state) (hupc : t.upc = s.upc + 1) : AwaitsWait t := by
  have hnext : (s.upc + 1).toNat = s.upc.toNat + 1 := by
    refine succ_toNat_of_not_end (c := s.cfg) ?_
    rw [← h.2]
    rcases hk with hk | hk | hk <;> exact fun he => by cases hk.symm.trans he
  have hf : fetched t = listed s.cfg (s.upc.toNat + 1) := by
    rw [fetched_congr (t := s.retire) hrom hupc, ← hnext]
    exact fetched_built (s := s.retire) h
  rw [fetched_built h] at hk
  exact .wait ((congrArg BlockState.busy hstate).trans hb) (hf ▸ listed_succ_kind _ _ hk)

/-- An error leads to the WAIT of MEASURE's abort tail, or to INIT's abort tail (R163). -/
theorem of_abort (h : s.built) (hb : s.busy = true) (code : ErrCode) : AwaitsWait (s.abort code) := by
  rcases abortTarget_busy s hb with ⟨-, hu⟩ | ⟨hs, hu⟩
  · have hf : fetched (s.abort code) = listed s.cfg s.abortTarget.toNat := fetched_built (s := s.abort code) h
    rw [hu] at hf
    exact .wait hb (.inl (congrArg Instr.kind hf))
  · exact .abort hs hu

end AwaitsWait

/-! ## What a step does where a WAIT is awaited -/

theorem HostEffect.awaitsWait {s t : State} (ha : AwaitsWait s) (ht : HostEffect s t) : AwaitsWait t := by
  cases ht with
  | access | select | reject => exact ha.congr rfl rfl rfl rfl rfl
  | init hs => exact absurd hs ha.not_startable.1
  | measure hs => exact absurd hs ha.not_startable.2
  | release => exact .ended (.inr rfl)

/-- The next WAIT has not retired until a step disarms the timer. -/
theorem OwnEffect.awaitsWait {s t : State} (ha : AwaitsWait s) (h : s.Inv) (hb : s.busy = true) (hkeep : s.tarmed = true → t.tarmed = true)
    (ht : OwnEffect (fetched s) s t) : AwaitsWait t := by
  cases ht with
  | issue hr => exact .request hb (kind_of_requestOf hr) (.inl nofun)
  | arm | counting => exact ha.congr rfl rfl rfl rfl rfl
  | expire _ harmed => cases hkeep harmed
  | commit hk => exact .of_retire h.built hb (.inr (.inr hk)) rfl rfl rfl
  | finish hf hst =>
    have hk := congrArg Instr.kind hf
    cases ha with
    | request _ hk' => simp [hk] at hk'
    | wait _ hk' => simp [hk] at hk'
    | ended hs => rcases busy_states hb with hs' | hs' <;> simp [hs'] at hs
    | abort hs hu =>
      obtain ⟨-, hu', -⟩ | ⟨-, -, rfl⟩ | ⟨hs', -⟩ := h.end_cases hb hf hst
      · cases hu.symm.trans hu'
      · exact .ended (.inl rfl)
      · cases hs.symm.trans hs'

theorem Completion.awaitsWait {p : Response} {s t : State} (h : s.built) (hb : s.busy = true) (ht : Completion (fetched s) p s t) :
    AwaitsWait t := by
  cases ht with
  | written hk => exact .of_retire h hb (.inl hk) rfl rfl rfl
  | pointed hk => exact .request hb (.inr hk) (.inr rfl)
  | received hf => exact .of_retire h hb (.inr (.inl (congrArg Instr.kind hf))) rfl rfl rfl
  | failed | malformed => exact .of_abort h hb _

/-- Every step but the retirement of a WAIT and a reset. -/
theorem StepEffect.awaitsWait {s t : State} (ha : AwaitsWait s) (h : s.Inv) (he : s.nextEvent ≠ .reset) (hkeep : s.tarmed = true → t.tarmed = true)
    (ht : StepEffect s t) : AwaitsWait t := by
  have h0 : s.takeEvent.Inv := takeEvent_inv h
  have ha0 : AwaitsWait s.takeEvent := ha.congr (by simp) (by simp) (by simp) (by simp) (by simp)
  have hf0 := fetched_takeEvent s
  cases ht with
  | host _ ht => exact ht.awaitsWait ha0
  | seq _ hb _ _ ht => exact OwnEffect.awaitsWait ha0 h0 (by simpa using hb) (by simpa using hkeep) (hf0.symm ▸ ht)
  | xport _ hx ht =>
    exact Completion.awaitsWait (s := s.takeEvent.takeResponse) h0.built (by simpa using (h.xact _ hx).1) (hf0.symm ▸ ht)
  | seqPass | xportPass => exact ha0
  | seqDiscard | tick => exact ha0.congr rfl rfl rfl rfl rfl
  | reset hreset => exact absurd hreset he

/-- Only SEQ issues a request, at a register access. -/
theorem StepEffect.of_requestIssued {s t : State} {r : Request} (hr : requestIssued s t = some r) (ht : StepEffect s t) :
    s.busy = true ∧ s.xact = .idle ∧ ((fetched s).kind = .write ∨ (fetched s).kind = .read) := by
  have hchange : t.xact ≠ s.xact := fun hx => by rw [requestIssued_same hx] at hr; cases hr
  cases ht with
  | host _ ht =>
    obtain ⟨hx, -⟩ := ht.frame
    exact absurd (by simp [hx]) hchange
  | seq _ hb hx _ ht =>
    cases ht with
    | issue hreq => exact ⟨hb, hx, kind_of_requestOf hreq⟩
    | arm | counting | expire | commit | finish => exact absurd (by simp) hchange
  | xport _ hx => rw [requestIssued_out hx] at hr; cases hr
  | seqPass | seqDiscard | xportPass | tick => exact absurd (by simp) hchange
  | reset =>
    unfold requestIssued at hr
    split at hr <;> simp_all

/-- Where a WAIT is awaited, the only request that can be issued is the data read of a BRD. -/
theorem AwaitsWait.phase_of_requestIssued {s t : State} {r : Request} (ha : AwaitsWait s) (h : s.Inv)
    (hr : requestIssued s t = some r) (ht : StepEffect s t) : s.brdPh = true := by
  obtain ⟨hb, hx, hk⟩ := ht.of_requestIssued hr
  cases ha with
  | request _ _ hp => exact hp.resolve_left (absurd hx)
  | wait _ hk' => rcases hk' with hk' | hk' <;> simp [hk'] at hk
  | abort hs hu =>
    have hf := fetched_built h.built
    rw [hu] at hf
    simp [hf, listed, iAbort] at hk
  | ended hs => rcases busy_states hb with hs' | hs' <;> simp [hs'] at hs

/-- A run, short of a reset, to a state that issues a request other than the data read of a BRD. -/
theorem waitRetiresIn_of_awaitsWait {s t u : State} {r : Request} (k : Nat) (ha : AwaitsWait s) (h : s.Inv)
    (hreset : noResetIn k s = true) (hrun : stateAt s k = some t) (hstep : step t = .next u)
    (hr : requestIssued t u = some r) (hph : t.brdPh = false) : waitRetiresIn k s = true := by
  induction k generalizing s with
  | zero =>
    cases hrun
    exact absurd (ha.phase_of_requestIssued h hr (step_effect hstep)) (by simp [hph])
  | succ k ih =>
    obtain ⟨v, hv⟩ := invariantStatesNeverStop s h
    rw [noResetIn, hv, Bool.and_eq_true, decide_eq_true_eq] at hreset
    obtain ⟨he, hreset⟩ := hreset
    rw [stateAt, run_succ _ _ _ hv] at hrun
    refine (waitRetiresIn_step hv k).mpr ⟨he, ?_⟩
    by_cases hkeep : s.tarmed = true → v.tarmed = true
    · exact .inr (ih ((step_effect hv).awaitsWait ha h he hkeep) (everyStepKeepsTheInvariant s v h hv) hreset hrun)
    · exact .inl (by simpa using hkeep)

/-- Settles O51: an outstanding request awaits a WAIT. -/
theorem requestsAreSpacedByAWait : Obligations.RequestsAreSpacedByAWait := by
  intro s t u k r r' h hx hreset hrun hstep hr hph
  obtain ⟨hb, hreq⟩ := h.xact r hx
  have ha : AwaitsWait s := .request hb (kind_of_requestOf hreq) (.inl (hx ▸ nofun))
  exact waitRetiresIn_of_awaitsWait k ha h hreset hrun hstep hr hph

end Sys2Proof.Machine

/-! # The sample multiplexer: the value and the publication of a sample (43_sample_mux.md R210, R212) -/

namespace Sys2Proof.Machine

/-- The first byte received is read back from the high half of the value (R214). -/
theorem extractLsb'_combine_high (b0 b1 : Byte) : (combine b0 b1).extractLsb' 8 8 = b0 := by
  rw [combine_append]
  exact BitVec.extractLsb'_append_eq_left

/-- The second byte received is read back from the low half of the value (R214). -/
theorem extractLsb'_combine_low (b0 b1 : Byte) : (combine b0 b1).extractLsb' 0 8 = b1 := by
  rw [combine_append]
  exact BitVec.extractLsb'_append_eq_right

/-- Settles O36: `combine` appends its two bytes. -/
theorem combineIsBigEndian : Obligations.CombineIsBigEndian :=
  fun b0 b1 => ⟨toNat_combine b0 b1, extractLsb'_combine_high b0 b1, extractLsb'_combine_low b0 b1⟩

/-- With no request outstanding and no response, COMMIT takes its own step: it publishes the staging bank and retires. -/
theorem exec_uopCommit_own {f : UFields} {s : State} (hx : s.xact = .idle) (hr : s.xresp = none) :
    exec (.uopCommit f) s = .next s.commitStaging.retire :=
  sequenced_own hx hr

/-- Settles O40: COMMIT's own step writes the committed bank, VALID and UPC only. -/
theorem commitPublishesTheStagingBank : Obligations.CommitPublishesTheStagingBank :=
  fun _ _ hx hr => exec_uopCommit_own hx hr

end Sys2Proof.Machine

/-! # Rejected commands, and the return from an abort (60_exceptions.md) -/

namespace Sys2Proof.Machine

/-! ## Rejected commands (R242) -/

/-- The states in which RELEASE is not accepted are those in which it is rejected (R123). -/
theorem not_releasable_cases {st : BlockState} (h : ¬ (st = .uninit ∨ st = .ready ∨ st = .failed)) :
    st = .initializing ∨ st = .measuring ∨ st = .closed := by
  cases st with
  | initializing | measuring | closed => simp
  | uninit | ready | failed => simp at h

/-- Settles O17, by the command's code. -/
theorem rejectedCommandOnlySetsCmdRej : Obligations.RejectedCommandOnlySetsCmdRej := by
  intro s hi code rest htape hnot
  rw [step_host htape, decodeHost_command]
  split_ifs with hinit hmeasure hrelease
  · exact (initStartsTheProgramOrIsRejected hi _).2 fun hs => hnot (.inl ⟨hinit, hs⟩)
  · exact (measureStartsTheProgramOrIsRejected hi _).2 fun hs => hnot (.inr (.inl ⟨hmeasure, hs⟩))
  · exact (releaseClosesOrIsRejected hi _).2 (not_releasable_cases fun hs => hnot (.inr (.inr ⟨hrelease, hs⟩)))
  · exact reservedCommandIsRejected _ _

/-! ## A tape played from the state it is set in -/

/-- A step clears the read data port first, so what stood in it does not matter (R9). -/
theorem step_withRdata (s : State) (v : Option HData) : step { s with rdata := v } = step s := by
  have htake : State.takeEvent { s with rdata := v } = s.takeEvent := by
    cases hs : s.sched <;> simp only [State.takeEvent, hs]
  rw [step, step, htake]; rfl

theorem run_succ_withRdata (k : Nat) (s : State) (v : Option HData) :
    run (k + 1) { s with rdata := v } = run (k + 1) s := by
  rw [run_eq, run_eq, step_withRdata]

/-- Where nothing is in progress, a tape of events that play from the state leads to the state they end in. -/
theorem Plays.runTape_eq {e : Event} {es : List Event} {s t : State} {rs : List Request} {n : Nat}
    (h : Plays (e :: es) s t rs n) (q : s.AtRest) (hr : s.xresp = none) :
    runTape (e :: es) s = .next (t.between []) := by
  have hrun := (h []).run_eq
  rw [List.append_nil, q.between_eq hr] at hrun
  exact (run_succ_withRdata es.length (s.withTape (e :: es)) none).symm.trans hrun

/-! ## The abort tails (R244) -/

/-- Only BWR and BRD have a request outstanding (R34). -/
theorem State.Inv.xact_idle {s : State} (h : s.Inv) (hw : (fetched s).kind ≠ .write) (hr : (fetched s).kind ≠ .read) :
    s.xact = .idle := by
  cases hx : s.xact with
  | idle => rfl
  | out r => exact ((kind_of_requestOf (h.xact r hx).2).elim hw hr).elim

theorem State.point_self {s : State} {k : Nat} (hu : s.upc = BitVec.ofNat 5 k) : s.point k s.staging = s := by
  rw [State.point, ← hu]

/-- The MEASURE abort tail waits the settle delay and ends in READY; it issues nothing. -/
theorem plays_mAbort {s : State} (h : s.built) (hb : s.busy = true) (hu : s.upc = 0x13) :
    Plays (waitTape s.cfg.nSettle ++ [.seq]) s ((s.point 0x14 s.staging).endProgram .ready) [] s.cfg.nSettle := by
  have hwait := plays_waitAt (b := s.staging) h hb 0x13 rfl rfl
  rw [State.point_self hu] at hwait
  exact hwait.append (plays_endReadyAt h hb 0x14 rfl)

/-- The INIT abort tail is one END, which releases the bus. -/
theorem plays_iAbort {s : State} (h : s.built) (hb : s.busy = true) (hu : s.upc = 0x15) :
    Plays [.seq] s (s.endProgram .failed) [] 0 := by
  have hf : fetched s = .uopEnd ⟨0, 0, 0, 4⟩ := by rw [fetched_built h, hu]; rfl
  exact plays_seq hb hf fun _ => rfl

/-- Settles O48: each tail is played from its entry, where nothing is in progress. -/
theorem abortTailsReturn : Obligations.AbortTailsReturn := by
  intro s h
  refine ⟨fun hs hu hunarmed => ?measure, fun hs hu => ?init⟩
  case measure =>
    have hb : s.busy = true := by rw [State.busy, hs]; rfl
    have hk : (fetched s).kind = .wait := by rw [fetched_built h.built, hu]; rfl
    have hphase : s.brdPh = false := Bool.eq_false_iff.mpr fun hp => nomatch hk.symm.trans (h.phase hp)
    have hx : s.xact = .idle := h.xact_idle (hk ▸ nofun) (hk ▸ nofun)
    have hrun := (plays_mAbort h.built hb hu).runTape_eq ⟨hphase, hx, hunarmed, h.tcnt.2 hunarmed⟩ h.xresp
    have hown : s.busOwn = true := by rw [h.busOwn, hs]; rfl
    exact ⟨_, hrun, rfl, rfl, hown, rfl, rfl, rfl, rfl⟩
  case init =>
    have hb : s.busy = true := by rw [State.busy, hs]; rfl
    have hk : (fetched s).kind = .endProgram := by rw [fetched_built h.built, hu]; rfl
    have hx : s.xact = .idle := h.xact_idle (hk ▸ nofun) (hk ▸ nofun)
    have hrun := (plays_iAbort h.built hb hu).runTape_eq (h.atRest hx (hk ▸ nofun) (hk ▸ nofun)) h.xresp
    have herr : s.lastErr = .busError := by simpa [lastErrFits, hs, hu, iAbort] using h.lastErr
    exact ⟨_, hrun, rfl, rfl, rfl, herr⟩

end Sys2Proof.Machine

/-! # Reset, SEL, and the ticks a running program owes (70_reset_and_hazards.md) -/

namespace Sys2Proof.Machine

/-! ## Reset (R270) -/

/-- A RESET event on the tape resets the block, in every state. -/
theorem step_reset {s : State} {rest : List Event} (htape : s.sched = .reset :: rest) :
    step s = .next { s with sched := rest, rdata := none : State }.resetBlock := by
  rw [step, State.nextEvent_cons _ _ _ htape, State.takeEvent_cons _ _ _ htape]; rfl

/-- After a reset STATUS reads 0 (R94). -/
theorem statusWord_resetBlock (s : State) : s.resetBlock.statusWord = 0x0000 := by
  simp only [State.statusWord, State.resetBlock_busOwn, State.resetBlock_cmdRej, State.resetBlock_lastErr,
    State.resetBlock_valid, State.resetBlock_busy, State.resetBlock_state]
  rfl

/-- Settles O9: a reset gives every element of block state the value it has in `State.reset`. -/
theorem resetSetsEveryElement : Obligations.ResetSetsEveryElement := fun _ _ htape =>
  ⟨_, step_reset htape, rfl, rfl, rfl, rfl, rfl, rfl, rfl, rfl, rfl, rfl, rfl, rfl, rfl, rfl, statusWord_resetBlock _,
    rfl, rfl, rfl⟩

/-- Settles O10: right after reset nothing is in progress, and the defaults of R10 are within its bounds. -/
theorem invariantHoldsAtReset : Obligations.InvariantHoldsAtReset :=
  have hwf : Config.default.wf = true := by decide
  State.AtRest.inv ⟨rfl, rfl, rfl, rfl⟩ ⟨hwf, rfl⟩ rfl rfl (fun _ => rfl) rfl rfl rfl

/-! ## SEL before SAMPLE (R281) -/

/-- The multiplexer's channel by the number written to SEL (R128, R213). -/
theorem mux_channelOf (b : Bank) (d : HData) :
    mux b (channelOf d) =
      if d.toNat % 4 = 0 then b.vbus else if d.toNat % 4 = 1 then b.vsense
      else if d.toNat % 4 = 2 then b.vpower else b.ovf.zeroExtend 16 := by
  simp [mux, ← BitVec.toNat_inj, toNat_channelOf]

/-- A SEL write and the SAMPLE read behind it read the channel just selected. -/
theorem run_selWrite_sampleRead {s : State} {d : HData} {rest : List Event}
    (htape : s.sched = .host (hw regSEL d) :: .host (hr regSAMPLE) :: rest) :
    run 2 s = .next (s.sampled (channelOf d) rest) := by
  rw [run_succ _ _ _ (step_selWrite htape), run_succ _ _ _ (step_sampleRead rfl)]; rfl

/-- Settles O27. -/
theorem selWriteIsSeenByTheNextSampleRead : Obligations.SelWriteIsSeenByTheNextSampleRead := fun s d _ htape =>
  ⟨_, run_selWrite_sampleRead htape, congrArg some (mux_channelOf s.committed d), rfl⟩

/-! ## The walk along the ROM, by its WAITs -/

/-- The ticks one micro-operation counts (R183). -/
def microTicks (c : Config) : Instr → Nat
  | .uopWait f => (delayOf c f).getD 0
  | _ => 0

/-- Only a WAIT counts ticks. -/
theorem microTicks_eq_zero {c : Config} {i : Instr} (hi : i.kind ≠ .wait) : microTicks c i = 0 := by
  cases i with
  | uopWait f => exact absurd rfl hi
  | _ => rfl

/-- The walk stops at an END; at any other micro-operation it takes its ticks and goes on. -/
theorem ticksFrom_succ (c : Config) (rom : Rom) (fuel : Nat) (a : UAddr) :
    ticksFrom c rom (fuel + 1) a =
      if (decodeMicro (romAt rom a)).kind = .endProgram then 0
      else microTicks c (decodeMicro (romAt rom a)) + ticksFrom c rom fuel (a + 1) := by
  rw [ticksFrom]
  cases decodeMicro (romAt rom a) with
  | uopEnd f => rfl
  | uopWait f => rfl
  | _ => exact (Nat.zero_add _).symm

theorem ticksFrom_end {c : Config} {rom : Rom} {a : UAddr}
    (hk : (decodeMicro (romAt rom a)).kind = .endProgram) (fuel : Nat) : ticksFrom c rom fuel a = 0 := by
  cases fuel with
  | zero => rfl
  | succ fuel => rw [ticksFrom_succ, if_pos hk]

/-- A longer walk counts no less. -/
theorem ticksFrom_le_succ (c : Config) (rom : Rom) (fuel : Nat) (a : UAddr) :
    ticksFrom c rom fuel a ≤ ticksFrom c rom (fuel + 1) a := by
  induction fuel generalizing a with
  | zero => exact Nat.zero_le _
  | succ fuel ih =>
    rw [ticksFrom_succ, ticksFrom_succ]
    split
    · exact Nat.le_refl 0
    · exact Nat.add_le_add_left (ih (a + 1)) _

/-- The ticks from UPC on are at most the current micro-operation's and those from UPC + 1 on. -/
theorem ticksFrom_upc_le (s : State) :
    ticksFrom s.cfg s.rom romDepth s.upc ≤
      microTicks s.cfg (fetched s) + ticksFrom s.cfg s.rom romDepth (s.upc + 1) := by
  rw [romDepth, ticksFrom_succ]
  split
  · exact Nat.zero_le _
  · exact Nat.add_le_add_left (ticksFrom_le_succ _ _ _ _) _

/-! ## The ticks owed in a state -/

theorem remainingTicks_unarmed {s : State} (hb : s.busy = true) (ha : s.tarmed = false) :
    remainingTicks s = ticksFrom s.cfg s.rom romDepth s.upc := by
  simp [remainingTicks, hb, ha]

theorem remainingTicks_armed {s : State} (hb : s.busy = true) (ha : s.tarmed = true) :
    remainingTicks s = s.tcnt + ticksFrom s.cfg s.rom romDepth (s.upc + 1) := by
  simp [remainingTicks, hb, ha]

/-- The same program at the same point owes the same ticks. -/
theorem remainingTicks_congr {s t : State} (hcfg : t.cfg = s.cfg) (hrom : t.rom = s.rom) (hstate : t.state = s.state)
    (hupc : t.upc = s.upc) (harmed : t.tarmed = s.tarmed) (hcount : t.tcnt = s.tcnt) :
    remainingTicks t = remainingTicks s := by
  rw [remainingTicks, State.busy, hcfg, hrom, hstate, hupc, harmed, hcount]; rfl

/-- While the micro-operation at UPC is no WAIT, no timer counts (R35). -/
theorem State.Inv.unarmed {s : State} (h : s.Inv) (hk : (fetched s).kind ≠ .wait) : s.tarmed = false :=
  Bool.eq_false_iff.mpr fun ha => hk (h.tarmed ha).2

/-- A micro-operation that counts nothing and retires drops no tick. -/
theorem remainingTicks_le_of_retire {s t : State} (h : s.Inv) (hb : s.busy = true) (hk : (fetched s).kind ≠ .wait)
    (hcfg : t.cfg = s.cfg) (hrom : t.rom = s.rom) (hstate : t.state = s.state) (hupc : t.upc = s.upc + 1)
    (harmed : t.tarmed = s.tarmed) : remainingTicks s ≤ remainingTicks t := by
  have ha := h.unarmed hk
  have hle := ticksFrom_upc_le s
  rw [microTicks_eq_zero hk, Nat.zero_add] at hle
  rwa [remainingTicks_unarmed hb ha, remainingTicks_unarmed (by rwa [State.busy, hstate]) (harmed.trans ha),
    hcfg, hrom, hupc]

/-- A TICK counts one tick at most (R184). -/
theorem remainingTicks_le_tick {s : State} (hb : s.busy = true) : remainingTicks s ≤ 1 + remainingTicks s.tick := by
  cases ha : s.tarmed with
  | false =>
    have hsame : remainingTicks s.tick = remainingTicks s := remainingTicks_congr rfl rfl rfl rfl rfl (by simp [ha])
    exact hsame ▸ Nat.le_add_left _ _
  | true =>
    rw [remainingTicks_armed hb ha, remainingTicks_armed (s := s.tick) hb ha]
    simp only [State.tick_tcnt, State.tick_cfg, State.tick_rom, State.tick_upc, ha, if_true]
    omega

/-! ## What a step does to the ticks owed -/

/-- A WAIT arms with the ticks the walk counts for it, and retires when none of them is left; no other micro-operation's
own step drops a tick. -/
theorem OwnEffect.remainingTicks_le {s t : State} (h : s.Inv) (hb : s.busy = true) (ht : OwnEffect (fetched s) s t) :
    remainingTicks s ≤ remainingTicks t := by
  cases ht with
  | issue | counting => exact (remainingTicks_congr rfl rfl rfl rfl rfl rfl).ge
  | @arm f n hf hn ha =>
    have hticks : microTicks s.cfg (fetched s) = n := by rw [hf, microTicks, hn]; rfl
    rw [remainingTicks_unarmed hb ha, remainingTicks_armed (s := s.armTimer n) hb rfl]
    exact hticks ▸ ticksFrom_upc_le s
  | expire _ ha hc =>
    rw [remainingTicks_armed hb ha, remainingTicks_unarmed (s := s.disarmTimer.retire) hb rfl, hc, Nat.zero_add]; rfl
  | commit hk => exact remainingTicks_le_of_retire h hb (by simp [hk]) rfl rfl rfl rfl rfl
  | finish hf =>
    have hk : (fetched s).kind = .endProgram := congrArg Instr.kind hf
    rw [remainingTicks_unarmed hb (h.unarmed (by simp [hk])), ticksFrom_end hk]
    exact Nat.zero_le _

/-- A response drops no tick, unless it records an error (R163). -/
theorem Completion.remainingTicks_le {p : Response} {s t : State} (h : s.Inv) (hb : s.busy = true)
    (herr : t.lastErr = s.lastErr) (ht : Completion (fetched s) p s t) : remainingTicks s ≤ remainingTicks t := by
  have habort {code : ErrCode} (hk : (fetched s).kind = .write ∨ (fetched s).kind = .read)
      (hcode : code ≠ .noError) : (s.abort code).lastErr ≠ s.lastErr := by
    rw [h.noError_of_kind hb hk]; exact hcode
  cases ht with
  | written hk => exact remainingTicks_le_of_retire h hb (by simp [hk]) rfl rfl rfl rfl rfl
  | pointed => exact (remainingTicks_congr rfl rfl rfl rfl rfl rfl).ge
  | received hf => exact remainingTicks_le_of_retire h hb (by simp [hf]) rfl rfl rfl rfl rfl
  | failed hk => exact absurd herr (habort hk nofun)
  | malformed hf => exact absurd herr (habort (.inr (congrArg Instr.kind hf)) nofun)

/-- No event but a TICK drops a tick of a running program, short of a reset and an error. -/
theorem StepEffect.remainingTicks_le {s t : State} (h : s.Inv) (hb : s.busy = true) (he : s.nextEvent ≠ .reset)
    (herr : t.lastErr = s.lastErr) (ht : StepEffect s t) :
    remainingTicks s ≤ (if s.nextEvent = .tick then 1 else 0) + remainingTicks t := by
  have h0 : s.takeEvent.Inv := takeEvent_inv h
  have hb0 : s.takeEvent.busy = true := by simpa using hb
  have herr0 : t.lastErr = s.takeEvent.lastErr := by simpa using herr
  have hf0 := fetched_takeEvent s
  have hs0 : remainingTicks s.takeEvent = remainingTicks s :=
    remainingTicks_congr (by simp) (by simp) (by simp) (by simp) (by simp) (by simp)
  rw [← hs0]
  cases ht with
  | tick htick => rw [if_pos htick]; exact remainingTicks_le_tick hb0
  | reset hr => exact absurd hr he
  | host _ ht => rw [ht.frame_of_busy hb0]; exact Nat.le_add_left _ _
  | seq _ _ _ _ ht => exact Nat.le_add_left_of_le (OwnEffect.remainingTicks_le h0 hb0 (hf0.symm ▸ ht))
  | xport _ _ ht =>
    exact Nat.le_add_left_of_le (Completion.remainingTicks_le (s := s.takeEvent.takeResponse) (takeResponse_inv h0) hb0
      herr0 (hf0.symm ▸ ht))
  | seqPass | seqDiscard | xportPass => exact Nat.le_add_left _ _

/-! ## The two programs' sums (R282) -/

/-- The INIT program's two WAITs. -/
theorem ticksFrom_initEntry (c : Config) : ticksFrom c (romOf c) romDepth initEntry = 2 * c.nSettle := by
  simp +arith [ticksFrom, decode_romOf, listed, initEntry, delayOf]

/-- The MEASURE program's six WAITs. -/
theorem ticksFrom_measEntry (c : Config) :
    ticksFrom c (romOf c) romDepth measEntry = 5 * c.nSettle + c.nInteg := by
  simp +arith [ticksFrom, decode_romOf, listed, measEntry, delayOf]

/-- At its first micro-operation a program owes the ticks of all its WAITs. -/
theorem remainingTicks_entry {s : State} (h : s.Inv) (hb : s.busy = true) (hk : (fetched s).kind = .write) :
    remainingTicks s = ticksFrom s.cfg (romOf s.cfg) romDepth s.upc := by
  rw [remainingTicks_unarmed hb (h.unarmed (by simp [hk])), h.built.2]

/-- Settles O50: no effect of a step but a TICK drops a tick, and the two sums are read off the ROM. -/
theorem programsCountTheirTicks : Obligations.ProgramsCountTheirTicks := by
  refine ⟨fun s t h hb hstep he herr => (step_effect hstep).remainingTicks_le h hb he herr,
    fun s h hs hu => ?_, fun s h hs hu => ?_⟩
  · have hk : (fetched s).kind = .write := by rw [fetched_built h.built, hu]; rfl
    rw [remainingTicks_entry h (by rw [State.busy, hs]; rfl) hk, hu]
    exact ticksFrom_initEntry s.cfg
  · have hk : (fetched s).kind = .write := by rw [fetched_built h.built, hu]; rfl
    rw [remainingTicks_entry h (by rw [State.busy, hs]; rfl) hk, hu]
    exact ticksFrom_measEntry s.cfg

end Sys2Proof.Machine
